-- ==== Sys2Proof/Word.lean ====
section
/-! DEFINITION. The words of IRPHY: the widths of spec/00_scope.md R9 and spec/30_encoding.md. -/

namespace Sys2Proof

/-- One byte: `opc`, `arg`, a DecodedByte, an entry of `buf` (R81, R35). -/
abbrev Byte := BitVec 8

/-- A host operation word, format H (R81). -/
abbrev HostWord := BitVec 16

/-- The code of a PulseLevel symbol, format L (R86). -/
abbrev SymCode := BitVec 3

/-- The code of a trigger, format T (R89). -/
abbrev TrigCode := BitVec 2

/-- The narrow hardware counter `cnt16` (R27). -/
abbrev Count16 := BitVec 16

/-- The overflow tally, `W_TALLY` = 48 bits (R9, R28). -/
abbrev Tally := BitVec 48

/-- A timestamp or an interval in ticks, `W_TS` = 64 bits (R9, R29). -/
abbrev Stamp := BitVec 64

/-- The data field of the response (R84). -/
abbrev RData := BitVec 96

/-- `N_WIN`, the entries of the EventWindow (R6). -/
abbrev nWin : Nat := 30

/-- `N_BUF`, the bytes of the ByteBuffer (R6). -/
abbrev nBuf : Nat := 12

/-- `N_CYC`, the carrier cycles of one `High` (R6). -/
abbrev nCyc : Nat := 8

end Sys2Proof
end

