-- ==== Sys2Proof/Config.lean ====
section
/-! DEFINITION. The parameters of IRPHY (spec/00_scope.md R7) and the free values of the model. -/

namespace Sys2Proof

/-- The parameters of R7: five durations in ns, the Frame Table and the four command tables (R26, R87).
`N_FRAMES` is the length of `ft`. A Frame is a list of 3-bit symbol codes, as the ROM holds them (R60, R87). -/
structure Config where
  tCarrier : Nat
  tHalfbit : Nat
  tGap     : Nat
  tSettle  : Nat
  /-- `T_TICK`, the period of one TICK: read by no hardware rule (R14), kept because R7 lists it. -/
  tTick    : Nat
  ft       : List (List SymCode)
  cmdStart : List Nat
  cmdStop  : List Nat
  /-- `CMD_APP[0]`, RequestCount. -/
  cmdApp0  : List Nat
  /-- `CMD_APP[1]`, ClearMemory. -/
  cmdApp1  : List Nat
  deriving DecidableEq, Repr

/-- The configuration `State.reset` carries: the nominal durations of R7 and the recommended tick period.
DESIGN CHOICE (log 2): the tables are open in R7, so they are empty here; no program is invented. -/
def Config.nominal : Config where
  tCarrier := 30300
  tHalfbit := 427250
  tGap     := 2840000
  tSettle  := 31950000
  tTick    := 4000
  ft       := []
  cmdStart := []
  cmdStop  := []
  cmdApp0  := []
  cmdApp1  := []

/-- FREE VALUES (log 4): the values a hardware reset leaves in the registers R42 marks "unspec". No body: nothing can be
proved of them. The argument counts them, so that no two draws are tied together. -/
opaque Config.freeWord : Nat → BitVec 64

end Sys2Proof
end

