-- ==== Sys2Proof/Syntax.lean ====
section
/-! DEFINITION. The instructions of IRPHY: one constructor for each row of spec/opcode_table.json (R10, R82, R86, R89, R90). -/

namespace Sys2Proof

/-- An operation of the block (R10). Host operations carry the whole `arg` byte: an illegal one is refused by the meaning,
as every rule's pseudocode does (R83, R91). -/
inductive Instr where
  /-- ENC_INIT, `opc` 0x00 (R120). -/
  | encInit (arg : Byte)
  /-- ENC_SEND, `opc` 0x01, `arg` a command code (R124). -/
  | encSend (arg : Byte)
  /-- TX_LEVEL, `opc` 0x02, `arg` a PulseLevel code (R110). -/
  | txLevel (arg : Byte)
  /-- TX_FRAME, `opc` 0x03, `arg` a frame index (R122). -/
  | txFrame (arg : Byte)
  /-- DEC_INIT, `opc` 0x04 (R140). -/
  | decInit (arg : Byte)
  /-- DEC_POLL, `opc` 0x05 (R172). -/
  | decPoll (arg : Byte)
  /-- DEC_GETBUF, `opc` 0x06 (R174). -/
  | decGetbuf (arg : Byte)
  /-- DEC_WINDOW, `opc` 0x07 (R164). -/
  | decWindow (arg : Byte)
  /-- A word of the reserved space, `opc` 0x08..0xFF (R90). -/
  | reservedOpc (opc arg : Byte)
  /-- The symbol `High`, code 0b000 (R105). -/
  | high
  /-- The symbol `Low1`, code 0b001 (R106). -/
  | low1
  /-- The symbol `Low2`, code 0b010 (R107). -/
  | low2
  /-- The symbol `Low3`, code 0b011 (R108). -/
  | low3
  /-- The symbol `Low4`, code 0b100 (R109). -/
  | low4
  /-- The trigger TICK, code 0b00 (R141). -/
  | tick
  /-- The trigger EDGE_FALL, code 0b01 (R144, R145). -/
  | edgeFall
  /-- The trigger EDGE_RISE, code 0b10 (R144, R145). -/
  | edgeRise
  deriving DecidableEq, Repr

/-- An encoded instruction: the three encoding spaces of R80. -/
inductive Code where
  | host (w : HostWord)
  | symbol (c : SymCode)
  | trigger (c : TrigCode)
  deriving DecidableEq, Repr

/-- Why a code is no instruction (R90). Every 16-bit host word is one: the reserved words are instructions that are refused. -/
inductive DecodeError where
  /-- PulseLevel codes 5, 6, 7. -/
  | reservedSymbol
  /-- Trigger code 3. -/
  | reservedTrigger
  deriving DecidableEq, Repr

/-- The closed set of application commands (R85, R129). -/
inductive Command where
  | requestCount
  | clearMemory
  deriving DecidableEq, Repr

end Sys2Proof
end

