-- ==== Sys2Proof/Machine/State.lean ====
section
/-! DEFINITION. The state of IRPHY (spec/10_state.md), plain data, and its value after hardware reset (R42, R220). -/

namespace Sys2Proof.Machine

/-- The part of a command the sequencer is in (R24). -/
inductive Stage where
  | start | settle | payload | stop
  deriving DecidableEq, Repr

/-- The part of a frame the sequencer is in (R24). -/
inductive Part where
  | preamble | body | gap
  deriving DecidableEq, Repr

/-- The half of a carrier cycle (R24). -/
inductive Half where
  | on | off
  deriving DecidableEq, Repr

/-- `tx_pc` (R24). `rem` is the ns left of the current segment; 0 means that the segment has not begun (log 6). -/
structure TxPc where
  stage : Stage
  k     : Nat
  part  : Part
  j     : Nat
  cyc   : Fin 8
  half  : Half
  rem   : Nat
  deriving DecidableEq, Repr

/-- The operation the sequencer is executing (R24 "the operation it is executing"; log 5). -/
inductive TxOp where
  | level (code : SymCode)
  | frame (f : Nat)
  | send (c : Command)
  deriving DecidableEq, Repr

/-- A segment `(v, d)`: the emitter line at `v` for `d` ns (R15, R104). -/
structure Segment where
  v : Bool
  d : Nat
  deriving DecidableEq, Repr

/-- The transmit half (R21 to R25) and the operation in progress. -/
structure TxHalf where
  /-- `tx_driven` (R21). -/
  driven : Bool
  /-- `tx_line` (R22). -/
  line   : Bool
  /-- `tx_busy` (R23). -/
  busy   : Bool
  op     : TxOp
  /-- `tx_pc` (R24). -/
  pc     : TxPc
  /-- `tx_trace` (R25). -/
  trace  : List Segment
  deriving DecidableEq, Repr

/-- The polarity of an edge, and of `edge_sel`: FALLING is the bit 0, RISING the bit 1 (R31). -/
inductive Polarity where
  | falling | rising
  deriving DecidableEq, Repr

/-- The receive half: capture unit (R27 to R34), decoder and buffer (R35, R36), ghost flags (R41). -/
structure RxHalf where
  /-- `cnt16` (R27). -/
  cnt16      : Count16
  /-- `ovf_tally` (R28). -/
  ovfTally   : Tally
  /-- `win[0..29]` (R29). -/
  win        : Vector Stamp 30
  /-- `slot_idx` (R30): 5 bits, never 30 or more between two steps; log 12. -/
  slotIdx    : Fin 30
  /-- `edge_sel` (R31). -/
  edgeSel    : Polarity
  /-- `window_full` (R32). -/
  windowFull : Bool
  /-- `win_count` (R33). -/
  winCount   : BitVec 8
  /-- `irq_ovf_en` (R34). -/
  irqOvfEn   : Bool
  /-- `irq_edge_en` (R34). -/
  irqEdgeEn  : Bool
  /-- `buf[0..11]` (R35). -/
  buf        : Vector Byte 12
  /-- `fill` (R36): 4 bits, 0..11 between steps; log 12. -/
  fill       : Fin 12
  /-- `g_dirty` (R41). -/
  gDirty     : Bool
  /-- `g_overrun` (R41). -/
  gOverrun   : Bool
  /-- `g_oob` (R41). -/
  gOob       : Bool
  deriving DecidableEq, Repr

/-- The response record of the host port (R84; log 7). -/
structure Response where
  err   : Bool
  ret   : Bool
  rdata : RData
  deriving DecidableEq, Repr

/-- Why a host word was refused: the closed list of R91. Not visible on the port. -/
inductive RefuseReason where
  | reservedOpc | badArg | txNotInit | rxNotInit
  deriving DecidableEq, Repr

/-- What the environment does next (R11; log 1). -/
inductive Input where
  /-- The host presents a word on the host port (R81). -/
  | host (w : HostWord)
  /-- A trigger occurs (R89). -/
  | trigger (c : TrigCode)
  /-- The sequencer runs for `n` ns, or to the end of the current segment if that comes first (log 6). -/
  | txTime (n : Nat)
  /-- The sequencer executes its next unit whole: a symbol, the gap or the settle delay (log 6). -/
  | txSymbol
  /-- Hardware reset (R220). -/
  | hwReset
  deriving DecidableEq, Repr

/-- The whole state. The two halves share nothing (R2). -/
structure State where
  /-- The parameters and ROMs (R7, R26), written by no step (log 2). -/
  cfg     : Config
  tx      : TxHalf
  rx      : RxHalf
  /-- The response the host port presents, none while no operation has ended (log 7). -/
  resp    : Option Response
  /-- Why the last host word was refused, for the model and its tests (R91; log 7). -/
  reason  : Option RefuseReason
  /-- What the environment does next, in order (log 1). -/
  inputs  : List Input
  /-- How often free values were drawn (log 4). -/
  freeCtr : Nat
  deriving DecidableEq, Repr

/-- IRPHY raises no exception and has no halting state (R200, R215): there is no fault, so the type is empty. Nobody raises
one. Safe: a claim that no fault occurs is what R200 says. -/
inductive Fault where
  deriving DecidableEq, Repr

/-- The model's own stops. None is the meaning of an instruction. -/
inductive Refusal where
  /-- Raised by an arm of `exec` for an instruction that has no meaning yet; no arm does. Safe. -/
  | notModelled (mnemonic : String)
  /-- Raised by `step` in a state whose configuration breaks a constraint of R8 ("A model refuses a configuration that
  breaks a constraint"). Safe. -/
  | illFormedConfig
  /-- Raised by `step` on an input with trigger code 3, which "names no trigger and cannot occur" (R90). Safe. -/
  | reservedTrigger
  /-- Raised by `step` when the sequencer meets a symbol code 5 to 7, which R90 says it never does. Safe. -/
  | reservedSymbol
  /-- Raised by `step` when `tx_pc` stands outside the operation in progress; no run reaches this (R24, R130). Safe. -/
  | strayPosition
  deriving DecidableEq, Repr

/-- Hardware reset (R42, R220) with the nominal configuration and no input pending. DESIGN CHOICE (log 3), unsafe: the
registers R42 marks "unspec" hold the values written here, which the spec does not give; no statement rests on them. -/
def State.reset : State where
  cfg := Config.nominal
  tx :=
    { driven := false
      line   := false
      busy   := false
      op     := .level 0
      pc     := { stage := .payload, k := 0, part := .preamble, j := 0, cyc := 0, half := .on, rem := 0 }
      trace  := [] }
  rx :=
    { cnt16      := 0
      ovfTally   := 0
      win        := Vector.replicate 30 0
      slotIdx    := 0
      edgeSel    := .falling
      windowFull := false
      winCount   := 0
      irqOvfEn   := false
      irqEdgeEn  := false
      buf        := Vector.replicate 12 0
      fill       := 0
      gDirty     := false
      gOverrun   := false
      gOob       := false }
  resp    := none
  reason  := none
  inputs  := []
  freeCtr := 0

end Sys2Proof.Machine
end

