-- ==== Sys2Proof/Machine/Timing.lean ====
section
/-! DEFINITION. The timing model (spec/40_tx_pulse_transmitter.md R100 to R103) and the constraints on the parameters
(spec/00_scope.md R8). -/

namespace Sys2Proof.Machine

/-- `N_FRAMES` (R7). -/
def nFrames (c : Config) : Nat := c.ft.length

/-- `T_HIGH` (R101). -/
def tHigh (c : Config) : Nat := nCyc * c.tCarrier

/-- `T_LOW1` (R102); R8 keeps the difference positive. -/
def tLow1 (c : Config) : Nat := c.tHalfbit - tHigh c

/-- `T_LOW2` (R103). -/
def tLow2 (c : Config) : Nat := c.tHalfbit

/-- `T_LOW3` (R103). -/
def tLow3 (c : Config) : Nat := tLow1 c + tLow2 c

/-- `T_LOW4` (R103). -/
def tLow4 (c : Config) : Nat := tLow1 c + 2 * tLow2 c

/-- Half a carrier period, the time of one on or off segment of a `High` (R105). -/
def tHalfCycle (c : Config) : Nat := c.tCarrier / 2

/-- Every entry of every Frame is one of the five PulseLevels (R8, R90). -/
def symbolsLegal (c : Config) : Bool := c.ft.all fun body => body.all fun code => decide (code.toNat ≤ 4)

/-- Every frame index of a command table is below `N_FRAMES` (R8). -/
def indicesLegal (c : Config) : Bool :=
  (c.cmdStart ++ c.cmdStop ++ c.cmdApp0 ++ c.cmdApp1).all fun f => decide (f < nFrames c)

/-- The constraints of R8 on the durations. -/
def durationsLegal (c : Config) : Bool :=
  decide (0 < c.tCarrier) && decide (c.tCarrier % 2 = 0) && decide (nCyc * c.tCarrier < c.tHalfbit)
    && decide (0 < c.tGap) && decide (0 < c.tSettle) && decide (0 < c.tTick)

/-- All constraints of R8. -/
def configLegal (c : Config) : Bool :=
  durationsLegal c && symbolsLegal c && indicesLegal c && decide (nFrames c ≤ 256)

end Sys2Proof.Machine
end

