-- ==== Sys2Proof/Machine/Ops.lean ====
section
/-! DEFINITION. The shared operations over the state: `emit` (R104), the host port's answer and its refusals (R84, R91), the
acceptance of a host word (R127), the stores (R60), hardware reset (R220). -/

namespace Sys2Proof.Machine

/-- `emit(v, d)` (R104): the line takes `v` and the segment is appended to the pulse train. -/
def emit (g : Segment) (t : TxHalf) : TxHalf := { t with line := g.v, trace := t.trace ++ [g] }

/-- `emit` of every segment of a list, in order. -/
def emitAll (gs : List Segment) (t : TxHalf) : TxHalf := gs.foldl (fun t g => emit g t) t

/-- The response of an operation that returns no value (R84). -/
def okResponse : Response := { err := false, ret := false, rdata := 0 }

/-- The response of a refused word (R91). -/
def errResponse : Response := { err := true, ret := false, rdata := 0 }

/-- An operation ends and the port presents its response (R84). -/
def respond (r : Response) (s : State) : State := { s with resp := some r, reason := none }

/-- `refuse(reason)` (R91): no state of the block changes and the port answers `err = 1`. -/
def refuse (why : RefuseReason) (s : State) : State := { s with resp := some errResponse, reason := some why }

/-- The port takes a host word only while no TX operation is in progress (R23, R127). While `tx_busy = 1` it accepts nothing:
the word has no effect and the host goes on waiting (log 9). -/
def hostOp (s : State) (f : State → State) : Host.Outcome State Fault Refusal :=
  .next (if s.tx.busy then s else f s)

/-- A TX operation is accepted: `tx_busy <- 1`, the sequencer stands before the operation's first segment, and no response is
presented until it ends (R23, R84, R127). -/
def beginTx (op : TxOp) (pc : TxPc) (s : State) : State :=
  { s with tx := { s.tx with busy := true, op := op, pc := pc }, resp := none, reason := none }

/-- A TX operation ends: `tx_busy <- 0` and the port responds with no value (R84, R127, R234). -/
def endTx (s : State) : State := respond okResponse { s with tx := { s.tx with busy := false } }

/-- The index after `i` in the window, 29 going to 0 (R30, R177). -/
def nextSlot (i : Fin 30) : Fin 30 := Fin.ofNat 30 (i.val + 1)

/-- The polarity watched after an accepted edge (R144). -/
def Polarity.flip : Polarity → Polarity
  | .falling => .rising
  | .rising  => .falling

/-- The bit that encodes a polarity (R31). -/
def Polarity.bit : Polarity → BitVec 1
  | .falling => 0
  | .rising  => 1

/-- `Abs(tally, cnt)`, the concatenation `{tally, cnt}` (R43, R64). -/
def absStamp (tally : Tally) (cnt : Count16) : Stamp := tally ++ cnt

/-- The twelve bytes on the response bus, byte `i` in bits `[8i+7 : 8i]` (R65, R84). -/
def packBuf (b : Vector Byte 12) : RData :=
  b.toList.foldr (fun byte acc => (acc <<< 8) ||| byte.setWidth 96) 0

/-- The `i`-th free value of the `n`-th draw (log 4); one draw takes fewer than 64. -/
def drawn (n i : Nat) : BitVec 64 := Config.freeWord (64 * n + i)

/-- A free bit. -/
def drawnBit (n i : Nat) : Bool := (drawn n i).getLsbD 0

/-- `tx_pc` after a hardware reset: free in every component (R42). -/
def drawnPc (n : Nat) : TxPc where
  stage := match (drawn n 1).toNat % 4 with
    | 0 => .start
    | 1 => .settle
    | 2 => .payload
    | _ => .stop
  k    := (drawn n 2).toNat
  part := match (drawn n 3).toNat % 3 with
    | 0 => .preamble
    | 1 => .body
    | _ => .gap
  j    := (drawn n 4).toNat
  cyc  := Fin.ofNat 8 (drawn n 5).toNat
  half := if drawnBit n 6 then .on else .off
  rem  := (drawn n 7).toNat

/-- The transmit half after a hardware reset (R42): `tx_line` and `tx_pc` are free. -/
def resetTx (n : Nat) (t : TxHalf) : TxHalf :=
  { t with driven := false, line := drawnBit n 0, busy := false, pc := drawnPc n, trace := [] }

/-- The receive half after a hardware reset (R42): what the table marks "unspec" is free. -/
def resetRx (n : Nat) : RxHalf where
  cnt16      := 0
  ovfTally   := (drawn n 8).setWidth 48
  win        := Vector.ofFn fun i => drawn n (20 + i.val)
  slotIdx    := Fin.ofNat 30 (drawn n 9).toNat
  edgeSel    := if drawnBit n 10 then .rising else .falling
  windowFull := drawnBit n 11
  winCount   := (drawn n 12).setWidth 8
  irqOvfEn   := false
  irqEdgeEn  := false
  buf        := Vector.ofFn fun i => (drawn n (50 + i.val)).setWidth 8
  fill       := Fin.ofNat 12 (drawn n 13).toNat
  gDirty     := false
  gOverrun   := false
  gOob       := false

/-- Hardware reset while the machine runs (R42, R220): ROMs and parameters stay, "unspec" registers take free values, an
operation in progress is dropped without a response (log 4, log 7). -/
def hardwareReset (s : State) : State :=
  { s with tx := resetTx s.freeCtr s.tx, rx := resetRx s.freeCtr, resp := none, reason := none,
           freeCtr := s.freeCtr + 1 }

end Sys2Proof.Machine
end

