-- ==== Sys2Proof/Machine/Flags.lean ====
section
/-! DEFINITION. Every flag the rules compute: the window flags at completion (R147), the ghost flags (R41, R152, R166), and
the full-buffer result of a poll (R172). -/

namespace Sys2Proof.Machine

/-- `g_dirty` after an accepted edge, from the flags before the edge's own writes (R152). -/
def dirtyAfterEdge (r : RxHalf) : Bool := r.gDirty || r.windowFull

/-- `g_overrun` after an accepted edge, from the flags before the edge's own writes (R152). -/
def overrunAfterEdge (r : RxHalf) : Bool := r.gOverrun || (r.windowFull && decide (r.slotIdx.val = 29))

/-- The ghost flags of the accepted-edge step (R152). -/
def ghostOnEdge (r : RxHalf) : RxHalf :=
  { r with gDirty := dirtyAfterEdge r, gOverrun := overrunAfterEdge r }

/-- Window completion (R147): `window_full <- 1`, `win_count` modulo 256, `slot_idx <- 0`. -/
def completeWindow (r : RxHalf) : RxHalf :=
  { r with windowFull := true, winCount := r.winCount + 1, slotIdx := 0 }

/-- `g_oob` after a poll that decoded a window with an out-of-band interval or not (R41, R166). -/
def oobAfterDecode (r : RxHalf) (oob : Bool) : Bool := r.gOob || oob

/-- The count of stored bytes has reached the capacity 12 (R172). -/
def bufferFull (stored : Nat) : Bool := decide (stored = nBuf)

end Sys2Proof.Machine
end

