-- ==== Sys2Proof/Machine/Operands.lean ====
section
/-! DEFINITION. The operands of the host operations (spec/30_encoding.md R83, R85, R86): each is the unsigned value of `arg`,
and an illegal one answers `none`, for the meaning to refuse with BAD_ARG. -/

namespace Sys2Proof.Machine

/-- The operand of an operation that takes none is legal when it is 0 (R83). -/
def argNone (arg : Byte) : Bool := decide (arg.toNat = 0)

/-- The command code of ENC_SEND (R83, R85): 0 RequestCount, 1 ClearMemory, 2..255 reserved. -/
def argCommand (arg : Byte) : Option Command :=
  match arg.toNat with
  | 0 => some .requestCount
  | 1 => some .clearMemory
  | _ => none

/-- The PulseLevel code of TX_LEVEL (R83, R86): legal when at most 4. -/
def argLevel (arg : Byte) : Option SymCode :=
  if arg.toNat ≤ 4 then some (arg.setWidth 3) else none

/-- The frame index of TX_FRAME (R83): legal when below `N_FRAMES`. -/
def argFrame (c : Config) (arg : Byte) : Option Nat :=
  if arg.toNat < nFrames c then some arg.toNat else none

end Sys2Proof.Machine
end

