-- ==== Sys2Proof/Machine/Capture.lean ====
section
/-! DEFINITION. The edge capture collector: DEC_INIT (R140), TICK and the overflow trigger (R141, R142), the edge triggers
(R143 to R147, R152). -/

namespace Sys2Proof.Machine

/-- What DEC_INIT writes (R140); `win` and `buf` keep what they held. -/
def initRx (r : RxHalf) : RxHalf :=
  { r with cnt16 := 0, ovfTally := 0, slotIdx := 0, edgeSel := .falling, windowFull := false, winCount := 0, fill := 0,
           gDirty := false, gOverrun := false, gOob := false, irqOvfEn := true, irqEdgeEn := true }

/-- DEC_INIT (R140). -/
def execDecInit (arg : Byte) (s : State) : Host.Outcome State Fault Refusal :=
  hostOp s fun s =>
    if argNone arg then respond okResponse { s with rx := initRx s.rx } else refuse .badArg s

/-- The overflow trigger (R142): counted only while enabled. -/
def overflowTrigger (r : RxHalf) : RxHalf :=
  if r.irqOvfEn then { r with ovfTally := r.ovfTally + 1 } else r

/-- TICK on the receive half (R141): the wrap and the overflow trigger are one step. -/
def tickRx (r : RxHalf) : RxHalf :=
  if r.cnt16.toNat = 65535 then overflowTrigger { r with cnt16 := 0 } else { r with cnt16 := r.cnt16 + 1 }

/-- TICK (R141). Never blocked by a transmission (R127). -/
def execTick (s : State) : Host.Outcome State Fault Refusal := .next { s with rx := tickRx s.rx }

/-- The timestamp of an edge handled now (R143). -/
def stampNow (r : RxHalf) : Stamp := absStamp r.ovfTally r.cnt16

/-- The write of an accepted edge (R144), before a possible window completion. -/
def storeEdge (r : RxHalf) : RxHalf :=
  { r with win := r.win.set r.slotIdx (stampNow r), slotIdx := nextSlot r.slotIdx, edgeSel := r.edgeSel.flip }

/-- An accepted edge (R144, R147, R152): ghost flags, the write, and at the 30th entry the window completion. -/
def acceptEdge (r : RxHalf) : RxHalf :=
  if r.slotIdx.val = 29 then completeWindow (storeEdge (ghostOnEdge r)) else storeEdge (ghostOnEdge r)

/-- An edge of polarity `p` on the receive half: accepted when enabled and watched for, else ignored (R144 to R146). -/
def edgeRx (p : Polarity) (r : RxHalf) : RxHalf :=
  if r.irqEdgeEn then (if p = r.edgeSel then acceptEdge r else r) else r

/-- EDGE_FALL (R144, R145, R146). -/
def execEdgeFall (s : State) : Host.Outcome State Fault Refusal := .next { s with rx := edgeRx .falling s.rx }

/-- EDGE_RISE (R144, R145, R146). -/
def execEdgeRise (s : State) : Host.Outcome State Fault Refusal := .next { s with rx := edgeRx .rising s.rx }

end Sys2Proof.Machine
end

