-- ==== Sys2Proof/Machine/Decoder.lean ====
section
/-! DEFINITION. The frame decoder and the byte buffer: `Classify`, `OffsetBit`, `DecodeWindow` (R160 to R169), DEC_WINDOW (R164),
DEC_POLL (R172), DEC_GETBUF (R174). -/

namespace Sys2Proof.Machine

/-- `Classify(d)` (R160): all six comparisons are strict (R161). -/
def classify (d : Stamp) : BitVec 8 :=
  if 20 < d.toNat ∧ d.toNat < 100 then 1
  else if 120 < d.toNat ∧ d.toNat < 200 then 3
  else if 220 < d.toNat ∧ d.toNat < 300 then 5
  else 0

/-- `OffsetBit(pos)` (R162): 23 is bit 7, 51 is bit 0. -/
def offsetBit (pos : BitVec 8) : Option (Fin 8) :=
  match pos.toNat with
  | 23 => some 7
  | 27 => some 6
  | 31 => some 5
  | 35 => some 4
  | 39 => some 3
  | 43 => some 2
  | 47 => some 1
  | 51 => some 0
  | _  => none

/-- `acc[b] <- v` (R163): an assignment, which can set the bit or clear it. -/
def setBit (acc : Byte) (b : Fin 8) (v : Bool) : Byte :=
  if v then acc ||| (1#8 <<< b.val) else acc &&& ~~~(1#8 <<< b.val)

/-- The transients of one DecodeWindow call (R37), and whether some interval was out of band (R166). -/
structure DecodeRun where
  pos : BitVec 8
  lvl : Bool
  acc : Byte
  oob : Bool
  deriving DecidableEq, Repr

/-- The transients at the start of a call (R37, R163). -/
def decodeStart : DecodeRun := { pos := 0, lvl := true, acc := 0, oob := false }

/-- One interval (R163, R165): classify, add, compare and write, flip. -/
def decodeInterval (x : DecodeRun) (d : Stamp) : DecodeRun :=
  { pos := x.pos + classify d
    lvl := !x.lvl
    acc := match offsetBit (x.pos + classify d) with
      | some b => setBit x.acc b x.lvl
      | none   => x.acc
    oob := x.oob || decide (classify d = 0) }

/-- The intervals `t[i] - t[i-1]` modulo 2^64, for `i` from 1 (R163, R169). -/
def intervals (t : List Stamp) : List Stamp := List.zipWith (fun before now => now - before) t (t.drop 1)

/-- The transients at the end of `DecodeWindow(t)`. -/
def decodeRun (t : Vector Stamp 30) : DecodeRun := (intervals t.toList).foldl decodeInterval decodeStart

/-- `DecodeWindow(t)` (R163). -/
def decodeWindow (t : Vector Stamp 30) : Byte := (decodeRun t).acc

/-- Some interval of the window is out of band (R166). -/
def windowOob (t : Vector Stamp 30) : Bool := (decodeRun t).oob

/-- A receive operation: refused before DEC_INIT (R176), after the operand check (R207). -/
def rxOp (arg : Byte) (s : State) (f : State → State) : Host.Outcome State Fault Refusal :=
  hostOp s fun s =>
    if argNone arg then (if s.rx.irqEdgeEn then f s else refuse .rxNotInit s) else refuse .badArg s

/-- DEC_WINDOW (R164): the byte in `rdata[7:0]`, no state written. -/
def execDecWindow (arg : Byte) (s : State) : Host.Outcome State Fault Refusal :=
  rxOp arg s fun s =>
    respond { err := false, ret := false, rdata := (decodeWindow s.rx.win).setWidth 96 } s

/-- How many bytes of the cycle are stored once a poll has decoded what there is (R172). -/
def storedAfterPoll (r : RxHalf) : Nat := if r.windowFull then r.fill.val + 1 else r.fill.val

/-- The decode of a poll (R172): the byte into `buf[fill]`, the flag cleared, `g_oob` as R166 says. -/
def pollDecode (r : RxHalf) : RxHalf :=
  if r.windowFull then
    { r with buf := r.buf.set r.fill (decodeWindow r.win), windowFull := false, gOob := oobAfterDecode r (windowOob r.win) }
  else r

/-- DEC_POLL on the receive half (R172): `fill` advances by the decode and goes back to 0 when it reaches 12. -/
def pollRx (r : RxHalf) : RxHalf := { pollDecode r with fill := Fin.ofNat 12 (storedAfterPoll r) }

/-- The result of DEC_POLL (R172). -/
def pollRet (r : RxHalf) : Bool := bufferFull (storedAfterPoll r)

/-- DEC_POLL (R172), one atomic step. -/
def execDecPoll (arg : Byte) (s : State) : Host.Outcome State Fault Refusal :=
  rxOp arg s fun s =>
    respond { err := false, ret := pollRet s.rx, rdata := 0 } { s with rx := pollRx s.rx }

/-- DEC_GETBUF (R174): the twelve bytes as they are, no state written. -/
def execDecGetbuf (arg : Byte) (s : State) : Host.Outcome State Fault Refusal :=
  rxOp arg s fun s =>
    respond { err := false, ret := false, rdata := packBuf s.rx.buf } s

end Sys2Proof.Machine
end

