-- ==== Sys2Proof/WellFormed.lean ====
section
/-! DEFINITION. Which instruction terms stand for a word (`Instr.wellFormed`), and which host operations have a legal operand
(`Instr.legal`, R83, R90). -/

namespace Sys2Proof

/-- The term is the reading of some code: `reservedOpc` holds an `opc` of the reserved space 0x08..0xFF (R90). -/
def Instr.wellFormed : Instr → Bool
  | .reservedOpc opc _ => decide (8 ≤ opc.toNat)
  | _ => true

/-- R83: the operand is legal, so that the word is not reserved (R90), in a block with `nFrames` frames. Symbols and triggers
have no operand. -/
def Instr.legal (nFrames : Nat) : Instr → Bool
  | .encInit arg     => decide (arg.toNat = 0)
  | .encSend arg     => decide (arg.toNat ≤ 1)
  | .txLevel arg     => decide (arg.toNat ≤ 4)
  | .txFrame arg     => decide (arg.toNat < nFrames)
  | .decInit arg     => decide (arg.toNat = 0)
  | .decPoll arg     => decide (arg.toNat = 0)
  | .decGetbuf arg   => decide (arg.toNat = 0)
  | .decWindow arg   => decide (arg.toNat = 0)
  | .reservedOpc _ _ => false
  | .high => true
  | .low1 => true
  | .low2 => true
  | .low3 => true
  | .low4 => true
  | .tick => true
  | .edgeFall => true
  | .edgeRise => true

end Sys2Proof
end

