-- ==== Sys2Proof/Decode.lean ====
section
/-! DEFINITION. The decoder of the three encoding spaces of spec/30_encoding.md (R81, R82, R86, R89, R90), and the encoder. -/

namespace Sys2Proof

/-- `opc = w[15:8]` (R81). -/
def opcOf (w : HostWord) : Byte := w.extractLsb' 8 8

/-- `arg = w[7:0]` (R81). -/
def argOf (w : HostWord) : Byte := w.extractLsb' 0 8

/-- Format H (R82). Total: an `opc` from 0x08 on is the reserved space (R90). -/
def decodeHost (w : HostWord) : Instr :=
  match (opcOf w).toNat with
  | 0 => .encInit (argOf w)
  | 1 => .encSend (argOf w)
  | 2 => .txLevel (argOf w)
  | 3 => .txFrame (argOf w)
  | 4 => .decInit (argOf w)
  | 5 => .decPoll (argOf w)
  | 6 => .decGetbuf (argOf w)
  | 7 => .decWindow (argOf w)
  | _ => .reservedOpc (opcOf w) (argOf w)

/-- Format L (R86); codes 5 to 7 are reserved (R90). -/
def decodeSymbol (c : SymCode) : Option Instr :=
  match c.toNat with
  | 0 => some .high
  | 1 => some .low1
  | 2 => some .low2
  | 3 => some .low3
  | 4 => some .low4
  | _ => none

/-- Format T (R89); code 3 names no trigger (R90). -/
def decodeTrigger (c : TrigCode) : Option Instr :=
  match c.toNat with
  | 0 => some .tick
  | 1 => some .edgeFall
  | 2 => some .edgeRise
  | _ => none

/-- The decoder, total on every code, rejecting by name. -/
def decode : Code → Except DecodeError Instr
  | .host w    => .ok (decodeHost w)
  | .symbol c  => match decodeSymbol c with
    | some i => .ok i
    | none   => .error .reservedSymbol
  | .trigger c => match decodeTrigger c with
    | some i => .ok i
    | none   => .error .reservedTrigger

/-- `{opc, arg}` (R81, R12). -/
def hostWord (opc arg : Byte) : HostWord := opc ++ arg

/-- The encoder, from R82, R86, R89. -/
def encode : Instr → Code
  | .encInit arg         => .host (hostWord 0x00 arg)
  | .encSend arg         => .host (hostWord 0x01 arg)
  | .txLevel arg         => .host (hostWord 0x02 arg)
  | .txFrame arg         => .host (hostWord 0x03 arg)
  | .decInit arg         => .host (hostWord 0x04 arg)
  | .decPoll arg         => .host (hostWord 0x05 arg)
  | .decGetbuf arg       => .host (hostWord 0x06 arg)
  | .decWindow arg       => .host (hostWord 0x07 arg)
  | .reservedOpc opc arg => .host (hostWord opc arg)
  | .high     => .symbol 0b000
  | .low1     => .symbol 0b001
  | .low2     => .symbol 0b010
  | .low3     => .symbol 0b011
  | .low4     => .symbol 0b100
  | .tick     => .trigger 0b00
  | .edgeFall => .trigger 0b01
  | .edgeRise => .trigger 0b10

/-- The code a row of spec/opcode_table.json stands for, by the row's width: 16 bits format H, 3 bits format L, 2 bits
format T. DESIGN CHOICE (log 11): a width of 8, which is 2 or 3 rounded up to a whole byte, is read as format L, since the
bits alone cannot tell the two spaces apart. -/
def tableCode (nbits w : Nat) : Option Code :=
  match nbits with
  | 16 => if w < 65536 then some (.host (BitVec.ofNat 16 w)) else none
  | 3  => if w < 8 then some (.symbol (BitVec.ofNat 3 w)) else none
  | 8  => if w < 8 then some (.symbol (BitVec.ofNat 3 w)) else none
  | 2  => if w < 4 then some (.trigger (BitVec.ofNat 2 w)) else none
  | _  => none

/-- The instruction the decoder reads from a row's bits. -/
def decodeTableWord (nbits w : Nat) : Option Instr :=
  match tableCode nbits w with
  | some c => match decode c with
    | .ok i    => some i
    | .error _ => none
  | none   => none

end Sys2Proof
end

