-- ==== Sys2Proof/Machine/Symbols.lean ====
section
/-! DEFINITION. The five PulseLevel symbols (spec/40_tx_pulse_transmitter.md R105 to R109) and their durations (R111). -/

namespace Sys2Proof.Machine

/-- One carrier cycle: on for half the period, off for the other half (R105). -/
def carrierCycle (c : Config) : List Segment := [⟨true, tHalfCycle c⟩, ⟨false, tHalfCycle c⟩]

/-- The segments of `High`: eight carrier cycles (R105). -/
def highTrain (c : Config) : List Segment := (List.replicate nCyc (carrierCycle c)).flatten

/-- The segments of a symbol code (R105 to R109); a reserved code has none (R90). -/
def symbolTrain (c : Config) (code : SymCode) : List Segment :=
  match code.toNat with
  | 0 => highTrain c
  | 1 => [⟨false, tLow1 c⟩]
  | 2 => [⟨false, tLow2 c⟩]
  | 3 => [⟨false, tLow3 c⟩]
  | 4 => [⟨false, tLow4 c⟩]
  | _ => []

/-- The duration of a symbol (R101 to R103, R111). -/
def symbolDur (c : Config) (code : SymCode) : Nat :=
  match code.toNat with
  | 0 => tHigh c
  | 1 => tLow1 c
  | 2 => tLow2 c
  | 3 => tLow3 c
  | 4 => tLow4 c
  | _ => 0

/-- The symbol emits its segments and touches nothing else. -/
def emitTrain (gs : List Segment) (s : State) : State := { s with tx := emitAll gs s.tx }

/-- `High` (R105): 16 segments, on first and off last. -/
def execHigh (s : State) : Host.Outcome State Fault Refusal := .next (emitTrain (highTrain s.cfg) s)

/-- `Low1` (R106). -/
def execLow1 (s : State) : Host.Outcome State Fault Refusal := .next (emitTrain [⟨false, tLow1 s.cfg⟩] s)

/-- `Low2` (R107). -/
def execLow2 (s : State) : Host.Outcome State Fault Refusal := .next (emitTrain [⟨false, tLow2 s.cfg⟩] s)

/-- `Low3` (R108). -/
def execLow3 (s : State) : Host.Outcome State Fault Refusal := .next (emitTrain [⟨false, tLow3 s.cfg⟩] s)

/-- `Low4` (R109). -/
def execLow4 (s : State) : Host.Outcome State Fault Refusal := .next (emitTrain [⟨false, tLow4 s.cfg⟩] s)

end Sys2Proof.Machine
end

