-- ==== Sys2Proof/Machine/Sequencer.lean ====
section
/-! DEFINITION. The TX sequencer: where `tx_pc` starts, what stands at it, and where it goes next
(spec/10_state.md R24; spec/41_tx_frame_encoder.md R121, R122, R124, R130). -/

namespace Sys2Proof.Machine

/-- The six symbols of the preamble: `High, Low1` three times (R121). -/
def preamble : List SymCode := [0b000, 0b001, 0b000, 0b001, 0b000, 0b001]

/-- The frames of a command's application part (R7, R85). -/
def appFrames (c : Config) : Command → List Nat
  | .requestCount => c.cmdApp0
  | .clearMemory  => c.cmdApp1

/-- The frame list an operation walks in a stage (R122, R124). TX_FRAME `f` is the one frame `f` of the stage PAYLOAD
(log 5). -/
def stageFrames (c : Config) (op : TxOp) (st : Stage) : List Nat :=
  match op with
  | .level _ => []
  | .frame f => match st with
    | .payload => [f]
    | .start => []
    | .settle => []
    | .stop => []
  | .send cmd => match st with
    | .start => c.cmdStart
    | .settle => []
    | .payload => appFrames c cmd
    | .stop => c.cmdStop

/-- The body `FT[f]` of the frame the sequencer is in; nothing when `tx_pc` or the index is out of range. -/
def frameBody? (c : Config) (op : TxOp) (pc : TxPc) : Option (List SymCode) :=
  match (stageFrames c op pc.stage)[pc.k]? with
  | some f => c.ft[f]?
  | none   => none

/-- What the sequencer executes next as a whole. -/
inductive TxUnit where
  | symbol (code : SymCode)
  | silence (d : Nat)
  deriving DecidableEq, Repr

/-- The symbol or silence at `tx_pc` (R122, R124); `none` outside the operation. -/
def unitAt (c : Config) (op : TxOp) (pc : TxPc) : Option TxUnit :=
  match op with
  | .level code => some (.symbol code)
  | .frame _ | .send _ => match pc.stage with
    | .settle => some (.silence c.tSettle)
    | .start | .payload | .stop => match frameBody? c op pc with
      | none => none
      | some body => match pc.part with
        | .preamble => preamble[pc.j]?.map .symbol
        | .body     => body[pc.j]?.map .symbol
        | .gap      => some (.silence c.tGap)

/-- The place of a unit before its first segment has begun. DESIGN CHOICE (log 5): R24 gives `cyc` and `half` a meaning only in a
`High`, `j` none in the part GAP and `k` none in the stage SETTLE; there they hold 0, ON, 0 and 0. -/
def atUnit (st : Stage) (k : Nat) (p : Part) (j : Nat) : TxPc :=
  { stage := st, k := k, part := p, j := j, cyc := 0, half := .on, rem := 0 }

/-- The place before the first preamble symbol of the `k`-th frame of a stage. -/
def enterFrame (st : Stage) (k : Nat) : TxPc := atUnit st k .preamble 0

/-- The place before the settle delay (R124), in the part GAP with `k` and `j` 0 (log 5). -/
def enterSettle : TxPc := atUnit .settle 0 .gap 0

/-- The first place of STOP, if it has a frame: an empty command list emits nothing for its stage (R124). -/
def enterStop (c : Config) (op : TxOp) : Option TxPc :=
  if (stageFrames c op .stop).isEmpty then none else some (enterFrame .stop 0)

/-- The first place of PAYLOAD, or of STOP when the payload is empty (R124). -/
def enterPayload (c : Config) (op : TxOp) : Option TxPc :=
  if (stageFrames c op .payload).isEmpty then enterStop c op else some (enterFrame .payload 0)

/-- The first place of an operation (R110, R122, R124). -/
def startPos (c : Config) (op : TxOp) : TxPc :=
  match op with
  | .level _ => atUnit .payload 0 .body 0
  | .frame _ => enterFrame .payload 0
  | .send _  => if (stageFrames c op .start).isEmpty then enterSettle else enterFrame .start 0

/-- The place after a frame's gap: the next frame of the stage, or the next stage (R124). -/
def afterFrame (c : Config) (op : TxOp) (pc : TxPc) : Option TxPc :=
  if pc.k + 1 < (stageFrames c op pc.stage).length then some (enterFrame pc.stage (pc.k + 1))
  else match pc.stage with
    | .start   => some enterSettle
    | .settle  => enterPayload c op
    | .payload => enterStop c op
    | .stop    => none

/-- The place after the unit at `tx_pc`, `none` at the end of the operation (R122, R124, R130). -/
def nextUnit (c : Config) (op : TxOp) (pc : TxPc) : Option TxPc :=
  match op with
  | .level _ => none
  | .frame _ | .send _ => match pc.stage with
    | .settle => enterPayload c op
    | .start | .payload | .stop =>
      let len := ((frameBody? c op pc).getD []).length
      match pc.part with
      | .preamble =>
        if pc.j + 1 < preamble.length then some (atUnit pc.stage pc.k .preamble (pc.j + 1))
        else if len = 0 then some (atUnit pc.stage pc.k .gap 0)
        else some (atUnit pc.stage pc.k .body 0)
      | .body =>
        if pc.j + 1 < len then some (atUnit pc.stage pc.k .body (pc.j + 1))
        else some (atUnit pc.stage pc.k .gap 0)
      | .gap => afterFrame c op pc

/-- The segment of a unit at a half cycle (R105 to R109, R122, R124); `none` for a reserved code. -/
def segmentOf (c : Config) (u : TxUnit) (h : Half) : Option Segment :=
  match u with
  | .silence d => some ⟨false, d⟩
  | .symbol code => match code.toNat with
    | 0 => some ⟨decide (h = .on), tHalfCycle c⟩
    | 1 => some ⟨false, tLow1 c⟩
    | 2 => some ⟨false, tLow2 c⟩
    | 3 => some ⟨false, tLow3 c⟩
    | 4 => some ⟨false, tLow4 c⟩
    | _ => none

/-- The unit has carrier cycles. -/
def hasCycles : TxUnit → Bool
  | .symbol code => decide (code.toNat = 0)
  | .silence _   => false

/-- The place after the segment at `tx_pc`: the next half cycle of a `High`, else the next unit (R24, R105). -/
def nextSegment (c : Config) (op : TxOp) (u : TxUnit) (pc : TxPc) : Option TxPc :=
  if hasCycles u then match pc.half with
    | .on  => some { pc with half := .off, rem := 0 }
    | .off => if pc.cyc.val < 7 then some { pc with cyc := Fin.ofNat 8 (pc.cyc.val + 1), half := .on, rem := 0 }
              else nextUnit c op pc
  else nextUnit c op pc

/-- `tx_pc` stands before a unit, none of which has begun. -/
def atUnitStart (pc : TxPc) : Bool := decide (pc.cyc.val = 0) && decide (pc.half = .on) && decide (pc.rem = 0)

/-- The sequencer goes to a place, or the operation ends there (R234). -/
def goTo (pc? : Option TxPc) (s : State) : State :=
  match pc? with
  | some pc => { s with tx := { s.tx with pc := pc } }
  | none    => endTx s

/-- The segment at `tx_pc` begins, unless it already has: it is emitted (R104) and its whole duration is left. -/
def beginSegment (g : Segment) (s : State) : State :=
  if s.tx.pc.rem = 0 then
    { s with tx := { emit g s.tx with pc := { s.tx.pc with rem := g.d } } }
  else s

/-- `n` ns pass inside the current segment; at its end the sequencer goes on (R24, R104, R234). The time stops counting at
the end of the segment (log 6). -/
def passTime (n : Nat) (u : TxUnit) (s : State) : State :=
  if n < s.tx.pc.rem then { s with tx := { s.tx with pc := { s.tx.pc with rem := s.tx.pc.rem - n } } }
  else goTo (nextSegment s.cfg s.tx.op u s.tx.pc) s

/-- The sequencer runs for at most `n` ns inside the current segment. With no TX operation in progress the time passes with no
effect and is not recorded (R112). -/
def runTime (n : Nat) (s : State) : Host.Outcome State Fault Refusal :=
  if s.tx.busy then
    match unitAt s.cfg s.tx.op s.tx.pc with
    | none   => .refused .strayPosition
    | some u => match segmentOf s.cfg u s.tx.pc.half with
      | none   => .refused .reservedSymbol
      | some g => .next (passTime n u (beginSegment g s))
  else .next s

/-- The segment at `tx_pc` runs to its end. -/
def finishSegment (s : State) : Host.Outcome State Fault Refusal :=
  match unitAt s.cfg s.tx.op s.tx.pc with
  | none   => .refused .strayPosition
  | some u => match segmentOf s.cfg u s.tx.pc.half with
    | none   => .refused .reservedSymbol
    | some g => .next (passTime (beginSegment g s).tx.pc.rem u (beginSegment g s))

/-- A silent unit, the gap or the settle delay (R122, R124, D10), runs whole. -/
def emitSilence (d : Nat) (s : State) : State := emitTrain [⟨false, d⟩] s

end Sys2Proof.Machine
end

