-- ==== Sys2Proof/Machine/Encoder.lean ====
section
/-! DEFINITION. The transmit half's host operations: ENC_INIT (R120), TX_LEVEL (R110), TX_FRAME (R122), ENC_SEND (R124); and the
pulse trains their rules write down, as reference functions (R122 to R125). -/

namespace Sys2Proof.Machine

/-- What ENC_INIT writes (R120). -/
def initTx (t : TxHalf) : TxHalf := { t with driven := true, line := false, trace := [] }

/-- ENC_INIT (R120). -/
def execEncInit (arg : Byte) (s : State) : Host.Outcome State Fault Refusal :=
  hostOp s fun s =>
    if argNone arg then respond okResponse { s with tx := initTx s.tx } else refuse .badArg s

/-- A TX operation: refused before ENC_INIT (R128), else accepted, and the sequencer runs it in later steps (R127). -/
def startTx (op : TxOp) (s : State) : State :=
  if s.tx.driven then beginTx op (startPos s.cfg op) s else refuse .txNotInit s

/-- TX_LEVEL (R110). -/
def execTxLevel (arg : Byte) (s : State) : Host.Outcome State Fault Refusal :=
  hostOp s fun s => match argLevel arg with
    | some code => startTx (.level code) s
    | none      => refuse .badArg s

/-- TX_FRAME (R122). -/
def execTxFrame (arg : Byte) (s : State) : Host.Outcome State Fault Refusal :=
  hostOp s fun s => match argFrame s.cfg arg with
    | some f => startTx (.frame f) s
    | none   => refuse .badArg s

/-- ENC_SEND (R124). -/
def execEncSend (arg : Byte) (s : State) : Host.Outcome State Fault Refusal :=
  hostOp s fun s => match argCommand arg with
    | some cmd => startTx (.send cmd) s
    | none     => refuse .badArg s

/-- The segments a list of symbols emits, in order (R111). -/
def levelsTrain (c : Config) (codes : List SymCode) : List Segment := codes.flatMap (symbolTrain c)

/-- `FT[f]`. -/
def bodyOf (c : Config) (f : Nat) : List SymCode := c.ft.getD f []

/-- The segments of `Frame(f)` (R122): preamble, body, gap. -/
def frameTrain (c : Config) (f : Nat) : List Segment :=
  levelsTrain c preamble ++ levelsTrain c (bodyOf c f) ++ [⟨false, c.tGap⟩]

/-- The segments of ENC_SEND (R124): start, settle delay, payload, stop. -/
def commandTrain (c : Config) (cmd : Command) : List Segment :=
  c.cmdStart.flatMap (frameTrain c) ++ [⟨false, c.tSettle⟩] ++ (appFrames c cmd).flatMap (frameTrain c)
    ++ c.cmdStop.flatMap (frameTrain c)

/-- The segments of a TX operation (R110, R122, R124). -/
def opTrain (c : Config) : TxOp → List Segment
  | .level code => symbolTrain c code
  | .frame f    => frameTrain c f
  | .send cmd   => commandTrain c cmd

/-- The number of units (symbols, gaps, the settle delay) of `Frame(f)` (R122). -/
def frameUnits (c : Config) (f : Nat) : Nat := preamble.length + (bodyOf c f).length + 1

/-- The number of units of a TX operation (R110, R122, R124). -/
def opUnits (c : Config) : TxOp → Nat
  | .level _  => 1
  | .frame f  => frameUnits c f
  | .send cmd => (c.cmdStart.map (frameUnits c)).sum + 1 + ((appFrames c cmd).map (frameUnits c)).sum
      + (c.cmdStop.map (frameUnits c)).sum

/-- The total duration of a pulse train. -/
def trainDur (gs : List Segment) : Nat := (gs.map Segment.d).sum

/-- `Dur(L)` (R111). -/
def levelsDur (c : Config) (codes : List SymCode) : Nat := (codes.map (symbolDur c)).sum

/-- `DurFrame(f)` (R123). -/
def frameDur (c : Config) (f : Nat) : Nat := 3 * c.tHalfbit + levelsDur c (bodyOf c f) + c.tGap

/-- `DurCmd(c)` (R125). -/
def commandDur (c : Config) (cmd : Command) : Nat :=
  (c.cmdStart.map (frameDur c)).sum + c.tSettle + ((appFrames c cmd).map (frameDur c)).sum
    + (c.cmdStop.map (frameDur c)).sum

/-- A pulse train as a waveform: adjacent segments of equal `v` merged, their durations added (R104). -/
def waveform : List Segment → List Segment
  | [] => []
  | g :: rest => match waveform rest with
    | [] => [g]
    | h :: more => if g.v = h.v then ⟨g.v, g.d + h.d⟩ :: more else g :: h :: more

end Sys2Proof.Machine
end

