-- ==== Sys2Proof/Machine/Reserved.lean ====
section
/-! DEFINITION. The reserved host words (spec/30_encoding.md R90): refused with RESERVED_OPC (R91). -/

namespace Sys2Proof.Machine

/-- A word of the reserved space (R90, R207): its `opc` is looked at first, its `arg` not at all. -/
def execReservedOpc (_opc _arg : Byte) (s : State) : Host.Outcome State Fault Refusal :=
  hostOp s fun s => refuse .reservedOpc s

end Sys2Proof.Machine
end

