-- ==== Sys2Proof/Machine/Dispatch.lean ====
section
/-! DEFINITION. The meaning of every instruction, one arm for each constructor. -/

namespace Sys2Proof.Machine

def exec (i : Instr) (s : State) : Host.Outcome State Fault Refusal :=
  match i with
  | .encInit arg => Sys2Proof.Machine.execEncInit arg s
  | .encSend arg => Sys2Proof.Machine.execEncSend arg s
  | .txLevel arg => Sys2Proof.Machine.execTxLevel arg s
  | .txFrame arg => Sys2Proof.Machine.execTxFrame arg s
  | .decInit arg => Sys2Proof.Machine.execDecInit arg s
  | .decPoll arg => Sys2Proof.Machine.execDecPoll arg s
  | .decGetbuf arg => Sys2Proof.Machine.execDecGetbuf arg s
  | .decWindow arg => Sys2Proof.Machine.execDecWindow arg s
  | .reservedOpc opc arg => Sys2Proof.Machine.execReservedOpc opc arg s
  | .high => Sys2Proof.Machine.execHigh s
  | .low1 => Sys2Proof.Machine.execLow1 s
  | .low2 => Sys2Proof.Machine.execLow2 s
  | .low3 => Sys2Proof.Machine.execLow3 s
  | .low4 => Sys2Proof.Machine.execLow4 s
  | .tick => Sys2Proof.Machine.execTick s
  | .edgeFall => Sys2Proof.Machine.execEdgeFall s
  | .edgeRise => Sys2Proof.Machine.execEdgeRise s

end Sys2Proof.Machine
end

