-- ==== Sys2Proof/Machine/Fetch.lean ====
section
/-! DEFINITION. What a step fetches and runs: the next input of the environment, or the next unit of the TX sequencer
(spec/00_scope.md R11; spec/41_tx_frame_encoder.md R127; log 1). -/

namespace Sys2Proof.Machine

/-- The sequencer moves past the unit it has executed (R130). -/
def advanceUnit (s : State) : State := goTo (nextUnit s.cfg s.tx.op s.tx.pc) s

/-- The sequencer moves past the unit in the state an execution answered. -/
def thenAdvance : Host.Outcome State Fault Refusal → Host.Outcome State Fault Refusal
  | .next s    => .next (advanceUnit s)
  | .fault r   => .fault r
  | .refused r => .refused r

/-- The sequencer executes the unit at `tx_pc` whole: a symbol is decoded and run by `exec` (R122 "execute the symbol"),
a gap or settle delay emitted. Inside a unit the current segment is finished instead (log 6). -/
def runUnit (s : State) : Host.Outcome State Fault Refusal :=
  if s.tx.busy then
    if atUnitStart s.tx.pc then
      match unitAt s.cfg s.tx.op s.tx.pc with
      | none => .refused .strayPosition
      | some (.silence d) => .next (advanceUnit (emitSilence d s))
      | some (.symbol code) => match decodeSymbol code with
        | some i => thenAdvance (exec i s)
        | none   => .refused .reservedSymbol
    else finishSegment s
  else .next s

/-- The input at the head is taken. -/
def popInput (rest : List Input) (s : State) : State := { s with inputs := rest }

/-- A trigger is handled at once, whether or not a transmission is in progress (R127, R206). -/
def handleTrigger (c : TrigCode) (s : State) : Host.Outcome State Fault Refusal :=
  match decodeTrigger c with
  | some i => exec i s
  | none   => .refused .reservedTrigger

/-- One step: the next input takes effect. While `tx_busy = 1` a host word is not accepted: it stays where it is, the host
waits and the sequencer goes on (R127). With no input the sequencer goes on if it is busy, and else nothing happens. -/
def runInput (s : State) : Host.Outcome State Fault Refusal :=
  match s.inputs with
  | [] => runUnit s
  | .host w :: rest => if s.tx.busy then runUnit s else exec (decodeHost w) (popInput rest s)
  | .trigger c :: rest => handleTrigger c (popInput rest s)
  | .txTime n :: rest => runTime n (popInput rest s)
  | .txSymbol :: rest => runUnit (popInput rest s)
  | .hwReset :: rest => .next (hardwareReset (popInput rest s))

/-- The configuration is checked first (R8: a model refuses one that breaks a constraint). -/
def runStep (s : State) : Host.Outcome State Fault Refusal :=
  if configLegal s.cfg then runInput s else .refused .illFormedConfig

/-- The state in which the very next step runs the instruction with this code (log 1): a host word or a trigger stands at the
head of the inputs, the port being free; a symbol is the one symbol of a TX_LEVEL just accepted. -/
def placeCode (code : Code) (s : State) : State :=
  match code with
  | .host w    => { s with inputs := .host w :: s.inputs, tx := { s.tx with busy := false } }
  | .trigger c => { s with inputs := .trigger c :: s.inputs }
  | .symbol c  =>
    { s with
      inputs := .txSymbol :: s.inputs
      tx := { s.tx with driven := true, busy := true, op := .level c, pc := startPos s.cfg (.level c) } }

/-- A row's bits placed where the next step fetches; bits that are no code change nothing. -/
def placeTableWord (s : State) (nbits w : Nat) : State :=
  match tableCode nbits w with
  | some code => placeCode code s
  | none      => s

end Sys2Proof.Machine
end

