-- ==== Sys2Proof/Machine/Step.lean ====
section
/-! DEFINITION. One step of the machine, and where the host places an instruction for the next step. -/

namespace Sys2Proof.Machine

/-- One step (R11, R127, R208). -/
def step (s : State) : Host.Outcome State Fault Refusal := runStep s

/-- `s` with a table word placed where the next step fetches (log 1, log 11). -/
def State.withFetchWord (s : State) (nbits w : Nat) : State := placeTableWord s nbits w

end Sys2Proof.Machine
end

