-- ==== Sys2Proof/Safety.lean ====
section
/-! DEFINITION. The terms in which claims speak of a safe run: the kinds of instruction, when a host word is refused, the
invariants of spec/10_state.md R40, clean and canonical windows (spec/43_rx_frame_decoder.md R170), runs of triggers. -/

namespace Sys2Proof.Machine

/-- The instruction is a host operation or a reserved host word (format H). -/
def isHostOp : Instr → Bool
  | .encInit _ => true
  | .encSend _ => true
  | .txLevel _ => true
  | .txFrame _ => true
  | .decInit _ => true
  | .decPoll _ => true
  | .decGetbuf _ => true
  | .decWindow _ => true
  | .reservedOpc _ _ => true
  | .high => false
  | .low1 => false
  | .low2 => false
  | .low3 => false
  | .low4 => false
  | .tick => false
  | .edgeFall => false
  | .edgeRise => false

/-- The instruction is a trigger (format T). -/
def isTrigger : Instr → Bool
  | .encInit _ => false
  | .encSend _ => false
  | .txLevel _ => false
  | .txFrame _ => false
  | .decInit _ => false
  | .decPoll _ => false
  | .decGetbuf _ => false
  | .decWindow _ => false
  | .reservedOpc _ _ => false
  | .high => false
  | .low1 => false
  | .low2 => false
  | .low3 => false
  | .low4 => false
  | .tick => true
  | .edgeFall => true
  | .edgeRise => true

/-- The operation needs ENC_INIT first (R128). -/
def needsTxInit : Instr → Bool
  | .encInit _ => false
  | .encSend _ => true
  | .txLevel _ => true
  | .txFrame _ => true
  | .decInit _ => false
  | .decPoll _ => false
  | .decGetbuf _ => false
  | .decWindow _ => false
  | .reservedOpc _ _ => false
  | .high => false
  | .low1 => false
  | .low2 => false
  | .low3 => false
  | .low4 => false
  | .tick => false
  | .edgeFall => false
  | .edgeRise => false

/-- The operation needs DEC_INIT first (R176). -/
def needsRxInit : Instr → Bool
  | .encInit _ => false
  | .encSend _ => false
  | .txLevel _ => false
  | .txFrame _ => false
  | .decInit _ => false
  | .decPoll _ => true
  | .decGetbuf _ => true
  | .decWindow _ => true
  | .reservedOpc _ _ => false
  | .high => false
  | .low1 => false
  | .low2 => false
  | .low3 => false
  | .low4 => false
  | .tick => false
  | .edgeFall => false
  | .edgeRise => false

/-- The operation belongs to the transmit half: ENC_INIT, the TX operations, the symbols (R2). -/
def isTxInstr : Instr → Bool
  | .encInit _ => true
  | .encSend _ => true
  | .txLevel _ => true
  | .txFrame _ => true
  | .decInit _ => false
  | .decPoll _ => false
  | .decGetbuf _ => false
  | .decWindow _ => false
  | .reservedOpc _ _ => false
  | .high => true
  | .low1 => true
  | .low2 => true
  | .low3 => true
  | .low4 => true
  | .tick => false
  | .edgeFall => false
  | .edgeRise => false

/-- The operation belongs to the receive half: DEC_INIT, the RX operations, the triggers (R2). -/
def isRxInstr : Instr → Bool
  | .encInit _ => false
  | .encSend _ => false
  | .txLevel _ => false
  | .txFrame _ => false
  | .decInit _ => true
  | .decPoll _ => true
  | .decGetbuf _ => true
  | .decWindow _ => true
  | .reservedOpc _ _ => false
  | .high => false
  | .low1 => false
  | .low2 => false
  | .low3 => false
  | .low4 => false
  | .tick => true
  | .edgeFall => true
  | .edgeRise => true

/-- `opc` is in the reserved space (R90). -/
def isReservedOpc : Instr → Bool
  | .encInit _ => false
  | .encSend _ => false
  | .txLevel _ => false
  | .txFrame _ => false
  | .decInit _ => false
  | .decPoll _ => false
  | .decGetbuf _ => false
  | .decWindow _ => false
  | .reservedOpc _ _ => true
  | .high => false
  | .low1 => false
  | .low2 => false
  | .low3 => false
  | .low4 => false
  | .tick => false
  | .edgeFall => false
  | .edgeRise => false

/-- The reason for which a host word is refused on a free port, in the order of R207, `none` when it is accepted. -/
def refusalOf (s : State) (i : Instr) : Option RefuseReason :=
  if isReservedOpc i then some .reservedOpc
  else if i.legal (nFrames s.cfg) = false then some .badArg
  else if needsTxInit i && !s.tx.driven then some .txNotInit
  else if needsRxInit i && !s.rx.irqEdgeEn then some .rxNotInit
  else none

/-- The TX operation a host word with a legal operand starts (R83, R110, R122, R124). -/
def txOpOf (c : Config) : Instr → Option TxOp
  | .encInit _ => none
  | .encSend arg => if arg.toNat = 0 then some (.send .requestCount)
      else if arg.toNat = 1 then some (.send .clearMemory) else none
  | .txLevel arg => if arg.toNat ≤ 4 then some (.level (arg.setWidth 3)) else none
  | .txFrame arg => if arg.toNat < nFrames c then some (.frame arg.toNat) else none
  | .decInit _ => none
  | .decPoll _ => none
  | .decGetbuf _ => none
  | .decWindow _ => none
  | .reservedOpc _ _ => none
  | .high => none
  | .low1 => none
  | .low2 => none
  | .low3 => none
  | .low4 => none
  | .tick => none
  | .edgeFall => none
  | .edgeRise => none

/-- The operation has a legal operand (R83). -/
def opLegal (c : Config) : TxOp → Bool
  | .level code => decide (code.toNat ≤ 4)
  | .frame f    => decide (f < nFrames c)
  | .send _     => true

/-- The operation is legal and `tx_pc` stands on a segment of it: a unit is there, the carrier position is used only by a
`High` (elsewhere it holds what log 5 says), and no more time is left than the segment lasts (R24). -/
def posLegal (c : Config) (op : TxOp) (pc : TxPc) : Bool :=
  opLegal c op && match unitAt c op pc with
  | none => false
  | some u => match segmentOf c u pc.half with
    | none => false
    | some g => (hasCycles u || (decide (pc.cyc.val = 0) && decide (pc.half = .on))) && decide (pc.rem ≤ g.d)

/-- While a segment is running the line has its value (R104). -/
def lineMatches (c : Config) (t : TxHalf) : Bool :=
  match unitAt c t.op t.pc with
  | none => true
  | some u => match segmentOf c u t.pc.half with
    | none => true
    | some g => decide (t.pc.rem = 0) || decide (t.line = g.v)

/-- What holds of the transmit half between two steps (R40, R112, R128): a transmission runs only with the line driven, its
position is legal, the line shows the running segment, and the driven line is off when nothing is sent. -/
abbrev TxInv (c : Config) (t : TxHalf) : Prop :=
  (t.busy = true → t.driven = true ∧ posLegal c t.op t.pc = true ∧ lineMatches c t = true)
    ∧ (t.busy = false → t.driven = true → t.line = false)

/-- What holds of the receive half between two steps (R34, R40, R41, R148): both enables agree; once initialised, a falling
edge is watched for exactly when the slot index is even; an overrun implies a dirty window. -/
abbrev RxInv (r : RxHalf) : Prop :=
  r.irqOvfEn = r.irqEdgeEn
    ∧ (r.irqEdgeEn = true → (r.edgeSel = .falling ↔ r.slotIdx.val % 2 = 0))
    ∧ (r.gOverrun = true → r.gDirty = true)

/-- The invariant of the machine: a legal configuration (R8) and both halves' invariants. -/
abbrev Inv (s : State) : Prop := configLegal s.cfg = true ∧ TxInv s.cfg s.tx ∧ RxInv s.rx

/-- The interval of `d` ticks lies in the band of `q` quarter-bit units (R6). -/
def inBand (q d : Nat) : Prop :=
  (q = 1 ∧ 20 < d ∧ d < 100) ∨ (q = 3 ∧ 120 < d ∧ d < 200) ∨ (q = 5 ∧ 220 < d ∧ d < 300)

/-- The edge positions of data or error bits from position `p` on: a 1 is a burst in the first half of its bit time, a 0 in
the second (R170). -/
def bitEdges : Nat → List Bool → List Nat
  | _, [] => []
  | p, b :: more => (if b then [p, p + 1] else [p + 2, p + 3]) ++ bitEdges (p + 4) more

/-- The twelve bits of a window: four error bits, then the byte from bit 7 down (R170). -/
def windowBits (err : BitVec 4) (byte : Byte) : List Bool :=
  [err.getLsbD 3, err.getLsbD 2, err.getLsbD 1, err.getLsbD 0,
   byte.getLsbD 7, byte.getLsbD 6, byte.getLsbD 5, byte.getLsbD 4,
   byte.getLsbD 3, byte.getLsbD 2, byte.getLsbD 1, byte.getLsbD 0]

/-- The canonical quarter-bit positions of the 30 edges (R170): six of the preamble, then two for each bit. -/
def canonPositions (err : BitVec 4) (byte : Byte) : List Nat := [0, 1, 2, 3, 4, 5] ++ bitEdges 6 (windowBits err byte)

/-- The successive differences of a list of positions. -/
def gaps (p : List Nat) : List Nat := List.zipWith (fun before now => now - before) p (p.drop 1)

/-- A canonical window of the byte with these error bits (R170). -/
def Canonical (err : BitVec 4) (byte : Byte) (t : Vector Stamp 30) : Prop :=
  List.Forall₂ (fun q d => inBand q d.toNat) (gaps (canonPositions err byte)) (intervals t.toList)

/-- A clean window: all 29 intervals are in band (R170). -/
def Clean (t : Vector Stamp 30) : Prop := ∀ d ∈ intervals t.toList, ∃ q, inBand q d.toNat

/-- `n` TICKs on the receive half. -/
def ticksRx : Nat → RxHalf → RxHalf
  | 0, r => r
  | n + 1, r => ticksRx n (tickRx r)

/-- An accepted edge after `n` TICKs, of whatever polarity is being watched for. -/
def tickedEdge (r : RxHalf) (n : Nat) : RxHalf := edgeRx (ticksRx n r).edgeSel (ticksRx n r)

/-- Accepted edges, each after its own number of TICKs. -/
def tickedEdges (r : RxHalf) (waits : List Nat) : RxHalf := waits.foldl tickedEdge r

/-- The running sums of a list from `from0` on: the TICK counts at which edges fall. -/
def sumsFrom : Nat → List Nat → List Nat
  | _, [] => []
  | from0, n :: more => (from0 + n) :: sumsFrom (from0 + n) more

/-- The window `w` has just completed: it stands in `win` and the flag is up. -/
def fullWindow (r : RxHalf) (w : Vector Stamp 30) : RxHalf := { r with win := w, windowFull := true }

/-- A poll of each of these windows as it completes, in order. -/
def pollWindows (r : RxHalf) (ws : List (Vector Stamp 30)) : RxHalf := ws.foldl (fun r w => pollRx (fullWindow r w)) r

/-- The input is neither a hardware reset nor a host word. -/
def isPassive : Input → Bool
  | .host _ => false
  | .trigger _ => true
  | .txTime _ => true
  | .txSymbol => true
  | .hwReset => false

/-- The segments of a unit (R105 to R109, R122, R124). -/
def unitTrain (c : Config) : TxUnit → List Segment
  | .symbol code => symbolTrain c code
  | .silence d   => [⟨false, d⟩]

/-- How many segments of the unit at `tx_pc` have begun (R24, R105). -/
def segmentsBegun (pc : TxPc) : Nat :=
  2 * pc.cyc.val + (if pc.half = .on then 0 else 1) + (if pc.rem = 0 then 0 else 1)

/-- The segments of a list of frames (R122). -/
def framesTrain (c : Config) (fs : List Nat) : List Segment := fs.flatMap (frameTrain c)

/-- The segments of a frame after the unit at `tx_pc` (R122). -/
def frameRest (c : Config) (body : List SymCode) (pc : TxPc) : List Segment :=
  match pc.part with
  | .preamble => levelsTrain c (preamble.drop (pc.j + 1)) ++ levelsTrain c body ++ [⟨false, c.tGap⟩]
  | .body     => levelsTrain c (body.drop (pc.j + 1)) ++ [⟨false, c.tGap⟩]
  | .gap      => []

/-- The segments of the stages after a stage (R124). -/
def stagesRest (c : Config) (op : TxOp) (st : Stage) : List Segment :=
  match st with
  | .start   => [⟨false, c.tSettle⟩] ++ framesTrain c (stageFrames c op .payload) ++ framesTrain c (stageFrames c op .stop)
  | .settle  => framesTrain c (stageFrames c op .payload) ++ framesTrain c (stageFrames c op .stop)
  | .payload => framesTrain c (stageFrames c op .stop)
  | .stop    => []

/-- The segments of an operation after the unit at `tx_pc` (R110, R122, R124). -/
def unitsRest (c : Config) (op : TxOp) (pc : TxPc) : List Segment :=
  match op with
  | .level _ => []
  | .frame _ | .send _ => match pc.stage with
    | .settle => stagesRest c op .settle
    | .start | .payload | .stop =>
      frameRest c ((frameBody? c op pc).getD []) pc
        ++ framesTrain c ((stageFrames c op pc.stage).drop (pc.k + 1)) ++ stagesRest c op pc.stage

/-- The segments that have not begun: those of the unit at `tx_pc` and of all that follows it; none when nothing is sent. -/
def trainToCome (c : Config) (t : TxHalf) : List Segment :=
  if t.busy then match unitAt c t.op t.pc with
    | none   => []
    | some u => (unitTrain c u).drop (segmentsBegun t.pc) ++ unitsRest c t.op t.pc
  else []

/-- Instructions executed one after the other. -/
def execAll : List Instr → State → Host.Outcome State Fault Refusal
  | [], s => .next s
  | i :: more, s => match exec i s with
    | .next t    => execAll more t
    | .fault r   => .fault r
    | .refused r => .refused r

/-- The state in which a TX operation has just been accepted. -/
def started (op : TxOp) (s : State) : State := beginTx op (startPos s.cfg op) s

end Sys2Proof.Machine
end

