-- ==== Sys2Proof/Certificates/Slice0/Obligations.lean ====
section
/-! DEFINITION. The statements for the provers, from the numbered rules of spec/. -/

open Sys2Proof Sys2Proof.Machine

/-! ### Encodings -/

/-- R92, R86, R89, R90: sample codes of every family, written out from the spec, decode to the instructions they stand for. -/
def Obligations.SampleCodesDecodeToTheirInstructions : Prop :=
  decode (.host 0x0000) = .ok (.encInit 0) ∧ decode (.host 0x0101) = .ok (.encSend 1)
    ∧ decode (.host 0x0204) = .ok (.txLevel 4) ∧ decode (.host 0x0307) = .ok (.txFrame 7)
    ∧ decode (.host 0x0400) = .ok (.decInit 0) ∧ decode (.host 0x0500) = .ok (.decPoll 0)
    ∧ decode (.host 0x0600) = .ok (.decGetbuf 0) ∧ decode (.host 0x0700) = .ok (.decWindow 0)
    ∧ decode (.host 0x0812) = .ok (.reservedOpc 0x08 0x12)
    ∧ decode (.symbol 0b000) = .ok .high ∧ decode (.symbol 0b011) = .ok .low3
    ∧ decode (.trigger 0b00) = .ok .tick ∧ decode (.trigger 0b01) = .ok .edgeFall ∧ decode (.trigger 0b10) = .ok .edgeRise

/-- R81, R82, R86, R89: decoding the encoding of a well-formed instruction gives it back, every operand byte included. -/
def Obligations.DecodeOfEncodeIsTheInstruction : Prop :=
  ∀ i : Instr, i.wellFormed = true → decode (encode i) = .ok i

/-- R81, R82, R86, R89: each instruction has one code only: what a code decodes to is well-formed and encodes back to that code. -/
def Obligations.DecodedInstructionEncodesBack : Prop :=
  ∀ (c : Code) (i : Instr), decode c = .ok i → i.wellFormed = true ∧ encode i = c

/-- R90: symbol codes 5 to 7 and trigger code 3 are rejected by name, nothing else is, and a host word is reserved exactly
from `opc` 0x08 on. -/
def Obligations.ExactlyTheReservedCodesAreRejected : Prop :=
  (∀ c : SymCode, decode (.symbol c) = .error .reservedSymbol ↔ 5 ≤ c.toNat)
    ∧ (∀ c : SymCode, c.toNat < 5 → ∃ i, decode (.symbol c) = .ok i)
    ∧ (∀ c : TrigCode, decode (.trigger c) = .error .reservedTrigger ↔ c.toNat = 3)
    ∧ (∀ c : TrigCode, c.toNat < 3 → ∃ i, decode (.trigger c) = .ok i)
    ∧ (∀ w : HostWord, ∃ i, decode (.host w) = .ok i ∧ (isReservedOpc i = true ↔ 0x0800 ≤ w.toNat))

/-! ### The step -/

/-- R11, R127: what a step adds around `exec`. A host word on a free port, and a trigger at any time, is taken from the inputs
and run. A symbol the sequencer stands before is run, and then the sequencer moves to the next unit, or the operation ends with its
response (R84). The list of inputs is the model's (log 1), and so is that one step runs a symbol whole (log 6), that `tx_pc` and
the operation keep their values at the end (log 5), and how the response stands in the state (log 7). -/
def Obligations.StepRunsTheDecodedInstruction : Prop :=
  ∀ s : State, configLegal s.cfg = true →
    (∀ w rest i, s.inputs = .host w :: rest → s.tx.busy = false → decode (.host w) = .ok i →
      step s = exec i { s with inputs := rest })
    ∧ (∀ c rest i, s.inputs = .trigger c :: rest → decode (.trigger c) = .ok i →
      step s = exec i { s with inputs := rest })
    ∧ (∀ c rest i, s.inputs = .txSymbol :: rest → s.tx.busy = true →
      s.tx.pc.cyc = 0 → s.tx.pc.half = .on → s.tx.pc.rem = 0 →
      unitAt s.cfg s.tx.op s.tx.pc = some (.symbol c) → decode (.symbol c) = .ok i →
      ∃ t, exec i { s with inputs := rest } = .next t
        ∧ step s = .next (match nextUnit s.cfg s.tx.op s.tx.pc with
          | some p => { t with tx := { t.tx with pc := p } }
          | none   => { t with tx := { t.tx with busy := false }, resp := some ⟨false, false, 0⟩, reason := none }))

/-- R122, R124 (D10), R84, R127: the gap and the settle delay are one segment with the line off, and at the end of the operation the
port responds. That one step runs the silence whole is the model's (log 6), and so is that `tx_pc` and the operation keep their
values at the end (log 5) and how the response stands in the state (log 7). -/
def Obligations.SilentUnitEmitsOneOffSegment : Prop :=
  ∀ (s : State) (rest : List Input) (d : Nat), configLegal s.cfg = true → s.inputs = .txSymbol :: rest →
    s.tx.busy = true → s.tx.pc.cyc = 0 → s.tx.pc.half = .on → s.tx.pc.rem = 0 →
    unitAt s.cfg s.tx.op s.tx.pc = some (.silence d) →
    step s = .next (match nextUnit s.cfg s.tx.op s.tx.pc with
      | some p => { s with inputs := rest,
                           tx := { s.tx with line := false, trace := s.tx.trace ++ [⟨false, d⟩], pc := p } }
      | none   => { s with inputs := rest,
                           tx := { s.tx with line := false, trace := s.tx.trace ++ [⟨false, d⟩], busy := false },
                           resp := some ⟨false, false, 0⟩, reason := none })

/-- R24: time passes inside a running segment. `rem` counts down and nothing else changes; the granularity is the model's
(log 6). -/
def Obligations.TimeInsideASegmentOnlyCountsDown : Prop :=
  ∀ (s : State) (rest : List Input) (n : Nat), Inv s → s.inputs = .txTime n :: rest → s.tx.busy = true →
    n < s.tx.pc.rem →
    step s = .next { s with inputs := rest, tx := { s.tx with pc := { s.tx.pc with rem := s.tx.pc.rem - n } } }

/-- R127: while `tx_busy = 1` the port accepts nothing. A host operation has no effect, and a word the host has presented
stays where it is while the sequencer goes on. -/
def Obligations.BusyPortAcceptsNothing : Prop :=
  (∀ (i : Instr) (s : State), isHostOp i = true → s.tx.busy = true → exec i s = .next s)
    ∧ (∀ (s : State) (w : HostWord) (rest : List Input), s.tx.busy = true → s.inputs = .host w :: rest →
        step s = step { s with inputs := .txSymbol :: s.inputs } ∧ ∀ t, step s = .next t → t.inputs = s.inputs)

/-- R11, R112 (log 1): with no input and no transmission nothing happens. -/
def Obligations.IdleMachineStaysAsItIs : Prop :=
  ∀ s : State, configLegal s.cfg = true → s.inputs = [] → s.tx.busy = false → step s = .next s

/-- R8: a configuration is refused exactly when it breaks a constraint. -/
def Obligations.IllegalConfigurationIsRefused : Prop :=
  (∀ c : Config, configLegal c = true ↔
      0 < c.tCarrier ∧ c.tCarrier % 2 = 0 ∧ 8 * c.tCarrier < c.tHalfbit ∧ 0 < c.tGap ∧ 0 < c.tSettle ∧ 0 < c.tTick
        ∧ (∀ body ∈ c.ft, ∀ code ∈ body, code.toNat < 5)
        ∧ (∀ f, f ∈ c.cmdStart ∨ f ∈ c.cmdStop ∨ f ∈ c.cmdApp0 ∨ f ∈ c.cmdApp1 → f < c.ft.length)
        ∧ c.ft.length ≤ 256)
    ∧ (∀ s : State, step s = .refused .illFormedConfig ↔ configLegal s.cfg = false)

/-! ### The transmit half -/

/-- R120: ENC_INIT on a free port. -/
def Obligations.EncInitDrivesTheLineOff : Prop :=
  ∀ (arg : Byte) (s : State), s.tx.busy = false →
    (arg = 0 → exec (.encInit arg) s = .next
      { s with tx := { s.tx with driven := true, line := false, trace := [] },
               resp := some ⟨false, false, 0⟩, reason := none })
    ∧ (arg ≠ 0 → exec (.encInit arg) s = .next { s with resp := some ⟨true, false, 0⟩, reason := some .badArg })

/-- R110: TX_LEVEL is accepted with the symbol of its code, or refused. The place of `tx_pc` is the model's (log 5), and so is that
no response is presented meanwhile (R84, log 7). -/
def Obligations.TxLevelStartsItsSymbol : Prop :=
  ∀ (arg : Byte) (s : State), s.tx.busy = false →
    (arg.toNat ≤ 4 → s.tx.driven = true → exec (.txLevel arg) s = .next
      { s with tx := { s.tx with busy := true, op := .level (arg.setWidth 3), pc := atUnit .payload 0 .body 0 },
               resp := none, reason := none })
    ∧ (4 < arg.toNat → exec (.txLevel arg) s = .next { s with resp := some ⟨true, false, 0⟩, reason := some .badArg })

/-- R122: TX_FRAME is accepted before the first preamble symbol of frame `f`, or refused. The place of `tx_pc` is the model's (log 5),
and so is that no response is presented meanwhile (R84, log 7). -/
def Obligations.TxFrameStartsBeforeItsPreamble : Prop :=
  ∀ (arg : Byte) (s : State), s.tx.busy = false →
    (arg.toNat < s.cfg.ft.length → s.tx.driven = true → exec (.txFrame arg) s = .next
      { s with tx := { s.tx with busy := true, op := .frame arg.toNat, pc := atUnit .payload 0 .preamble 0 },
               resp := none, reason := none })
    ∧ (s.cfg.ft.length ≤ arg.toNat →
        exec (.txFrame arg) s = .next { s with resp := some ⟨true, false, 0⟩, reason := some .badArg })

/-- R124, R85: ENC_SEND is accepted before the first start frame, or the settle delay when there is none, or refused. The place of
`tx_pc` is the model's (log 5), and so is that no response is presented meanwhile (R84, log 7). -/
def Obligations.EncSendStartsWithTheStartCommand : Prop :=
  ∀ (arg : Byte) (s : State), s.tx.busy = false →
    (∀ cmd : Command, arg = (match cmd with | .requestCount => 0 | .clearMemory => 1) → s.tx.driven = true →
      exec (.encSend arg) s = .next
        { s with tx := { s.tx with busy := true, op := .send cmd,
                                   pc := if s.cfg.cmdStart = [] then atUnit .settle 0 .gap 0
                                         else atUnit .start 0 .preamble 0 },
                 resp := none, reason := none })
    ∧ (1 < arg.toNat → exec (.encSend arg) s = .next { s with resp := some ⟨true, false, 0⟩, reason := some .badArg })

/-- R128: ENC_SEND, TX_FRAME and TX_LEVEL before the first ENC_INIT. -/
def Obligations.TxOperationsAreRefusedBeforeEncInit : Prop :=
  ∀ (i : Instr) (s : State), needsTxInit i = true → i.legal s.cfg.ft.length = true → s.tx.busy = false →
    s.tx.driven = false → exec i s = .next { s with resp := some ⟨true, false, 0⟩, reason := some .txNotInit }

/-- R105, R101: `High` is eight carrier cycles, on first and off last: 16 segments, lasting `8 × T_CARRIER`. -/
def Obligations.HighEmitsEightCarrierCycles : Prop :=
  ∀ s : State,
    let gs : List Segment := (List.replicate 8 [⟨true, s.cfg.tCarrier / 2⟩, ⟨false, s.cfg.tCarrier / 2⟩]).flatten
    exec .high s = .next { s with tx := { s.tx with line := false, trace := s.tx.trace ++ gs } }
      ∧ gs.length = 16
      ∧ (s.cfg.tCarrier % 2 = 0 → (gs.map Segment.d).sum = 8 * s.cfg.tCarrier)

/-- R106 to R109: each `Low_n` is one segment with the line off; as waveforms `Low3` is `Low1` and `Low2`, `Low4` is `Low1` and
twice `Low2`, in any order, and `Low3` followed by `Low2`. -/
def Obligations.LowSymbolsHoldTheLineOff : Prop :=
  ∀ s : State,
    let l1 := s.cfg.tHalfbit - 8 * s.cfg.tCarrier
    let l2 := s.cfg.tHalfbit
    (exec .low1 s = .next { s with tx := { s.tx with line := false, trace := s.tx.trace ++ [⟨false, l1⟩] } })
      ∧ (exec .low2 s = .next { s with tx := { s.tx with line := false, trace := s.tx.trace ++ [⟨false, l2⟩] } })
      ∧ (exec .low3 s = .next { s with tx := { s.tx with line := false, trace := s.tx.trace ++ [⟨false, l1 + l2⟩] } })
      ∧ (exec .low4 s = .next { s with tx := { s.tx with line := false, trace := s.tx.trace ++ [⟨false, l1 + 2 * l2⟩] } })
      ∧ waveform (levelsTrain s.cfg [3]) = waveform (levelsTrain s.cfg [1, 2])
      ∧ waveform (levelsTrain s.cfg [3]) = waveform (levelsTrain s.cfg [2, 1])
      ∧ waveform (levelsTrain s.cfg [4]) = waveform (levelsTrain s.cfg [1, 2, 2])
      ∧ waveform (levelsTrain s.cfg [4]) = waveform (levelsTrain s.cfg [2, 1, 2])
      ∧ waveform (levelsTrain s.cfg [4]) = waveform (levelsTrain s.cfg [2, 2, 1])
      ∧ waveform (levelsTrain s.cfg [4]) = waveform (levelsTrain s.cfg [3, 2])

/-- R101, R102, R103: the durations, the order of the four silences and their place among half-bit periods, for every legal
parameter set, and the nominal values. -/
def Obligations.LowDurationsAreOrdered : Prop :=
  (∀ c : Config, configLegal c = true →
    tHigh c = 8 * c.tCarrier ∧ tHigh c + tLow1 c = c.tHalfbit ∧ 0 < tLow1 c ∧ tLow1 c < tLow2 c ∧ tLow2 c < tLow3 c ∧ tLow3 c < tLow4 c
      ∧ tLow2 c = c.tHalfbit ∧ tLow3 c = tLow1 c + tLow2 c ∧ tLow4 c = tLow1 c + 2 * tLow2 c
      ∧ tLow1 c < 2 * c.tHalfbit ∧ tLow2 c < 2 * c.tHalfbit ∧ tLow3 c < 2 * c.tHalfbit
      ∧ tLow4 c = 2 * c.tHalfbit + tLow1 c ∧ tLow4 c < 3 * c.tHalfbit)
    ∧ tHigh Config.nominal = 242400 ∧ tLow1 Config.nominal = 184850 ∧ tLow2 Config.nominal = 427250
    ∧ tLow3 Config.nominal = 612100 ∧ tLow4 Config.nominal = 1039350

/-- R111, R123, R125: the pulse trains last exactly as long as the durations of their levels, gaps and settle delay. -/
def Obligations.PulseTrainsLastAsLongAsTheirLevels : Prop :=
  ∀ c : Config, configLegal c = true →
    (∀ codes : List SymCode, trainDur (levelsTrain c codes) = levelsDur c codes)
      ∧ levelsDur c [] = 0
      ∧ (∀ f : Nat, trainDur (frameTrain c f) = 3 * c.tHalfbit + levelsDur c (c.ft.getD f []) + c.tGap)
      ∧ (∀ cmd : Command, trainDur (commandTrain c cmd) = commandDur c cmd)

/-- R110, R122, R124, R127, R234: TX_LEVEL, TX_FRAME and ENC_SEND from acceptance to end. Left alone, an accepted operation stays
busy for exactly its units, emits exactly its pulse train in order, ends with the line off and the response of an operation
that returns nothing, and touches no receive state. One step for each unit is the model's grain (log 6), and that no
response stands meanwhile is log 7. -/
def Obligations.TxOperationEmitsItsWholePulseTrain : Prop :=
  ∀ (s : State) (i : Instr) (op : TxOp), configLegal s.cfg = true → txOpOf s.cfg i = some op →
    s.tx.busy = false → s.tx.driven = true → s.inputs = [] →
    ∃ u, exec i s = .next u
      ∧ (∀ m, m < opUnits s.cfg op → ∃ v, core.run m u = .next v ∧ v.tx.busy = true ∧ v.resp = none)
      ∧ ∃ t, core.run (opUnits s.cfg op) u = .next t
          ∧ t.tx.busy = false ∧ t.tx.line = false ∧ t.tx.driven = true
          ∧ t.tx.trace = s.tx.trace ++ opTrain s.cfg op
          ∧ t.resp = some ⟨false, false, 0⟩ ∧ t.rx = s.rx ∧ t.cfg = s.cfg

/-- R104, R127, D29: however triggers and stretches of transmitter time are interleaved, the pulse train emitted so far is an
initial part of the operation's train, and it is all of it when `tx_busy` falls. The grain of time is the model's (log 6), and so is
that a segment is appended when it begins (log 16). -/
def Obligations.PulseTrainDoesNotDependOnTheSchedule : Prop :=
  ∀ (s t : State) (op : TxOp) (n : Nat), configLegal s.cfg = true → opLegal s.cfg op = true →
    (∀ x ∈ s.inputs, isPassive x = true) → core.run n (started op s) = .next t →
    ∃ more, t.tx.trace ++ more = s.tx.trace ++ opTrain s.cfg op ∧ (t.tx.busy = false → more = [])

/-! ### The capture unit -/

/-- R140: DEC_INIT on a free port; `win` and `buf` keep what they held. -/
def Obligations.DecInitResetsCountersAndFlags : Prop :=
  ∀ (arg : Byte) (s : State), s.tx.busy = false →
    (arg = 0 → exec (.decInit arg) s = .next
      { s with
        rx := { cnt16 := 0, ovfTally := 0, win := s.rx.win, slotIdx := 0, edgeSel := .falling, windowFull := false,
                winCount := 0, irqOvfEn := true, irqEdgeEn := true, buf := s.rx.buf, fill := 0,
                gDirty := false, gOverrun := false, gOob := false }
        resp := some ⟨false, false, 0⟩, reason := none })
    ∧ (arg ≠ 0 → exec (.decInit arg) s = .next { s with resp := some ⟨true, false, 0⟩, reason := some .badArg })

/-- R141, R142, R146: TICK always counts; the wrap counts in the tally only while `irq_ovf_en = 1`. -/
def Obligations.TickCountsAndWraps : Prop :=
  ∀ s : State,
    (s.rx.cnt16 ≠ 65535 → exec .tick s = .next { s with rx := { s.rx with cnt16 := s.rx.cnt16 + 1 } })
      ∧ (s.rx.cnt16 = 65535 → s.rx.irqOvfEn = true →
          exec .tick s = .next { s with rx := { s.rx with cnt16 := 0, ovfTally := s.rx.ovfTally + 1 } })
      ∧ (s.rx.cnt16 = 65535 → s.rx.irqOvfEn = false → exec .tick s = .next { s with rx := { s.rx with cnt16 := 0 } })

/-- R43: `Abs` is `tally × 65536 + cnt` exactly. -/
def Obligations.TimestampIsTallyTimesWidthPlusCount : Prop :=
  ∀ (tally : Tally) (cnt : Count16), (absStamp tally cnt).toNat = tally.toNat * 65536 + cnt.toNat

/-- R149: whatever is executed after DEC_INIT, edges, polls, transmissions and all, with `n` TICKs among it and no further DEC_INIT,
the clock reads `n`, split over tally and counter, and an edge accepted next is stamped `n`. -/
def Obligations.ClockCountsTicksSinceDecInit : Prop :=
  ∀ (s : State) (is : List Instr), s.tx.busy = false → .decInit 0 ∉ is → is.count .tick < 2 ^ 64 →
    ∃ t, execAll (.decInit 0 :: is) s = .next t
      ∧ t.rx.ovfTally.toNat = is.count .tick / 65536
      ∧ t.rx.cnt16.toNat = is.count .tick % 65536
      ∧ ∀ i : Instr, (i = .edgeFall ∧ t.rx.edgeSel = .falling ∨ i = .edgeRise ∧ t.rx.edgeSel = .rising) →
          ∃ u, exec i t = .next u ∧ (u.rx.win[t.rx.slotIdx]).toNat = is.count .tick

/-- R150, R151: from any initialised state, `n` TICKs move the timestamp on by `n` modulo 2^64 and change nothing but the counter
and the tally. -/
def Obligations.TicksAdvanceTheTimestampAlone : Prop :=
  ∀ (r : RxHalf) (n : Nat), r.irqOvfEn = true →
    (stampNow (ticksRx n r)).toNat = ((stampNow r).toNat + n) % 2 ^ 64
      ∧ ticksRx n r = { r with cnt16 := (ticksRx n r).cnt16, ovfTally := (ticksRx n r).ovfTally }

/-- R144, R147, R152: an accepted edge writes its timestamp and sets the ghost flags; the 30th completes the window. -/
def Obligations.AcceptedEdgeIsStamped : Prop :=
  ∀ (s : State) (i : Instr), s.rx.irqEdgeEn = true →
    (i = .edgeFall ∧ s.rx.edgeSel = .falling ∨ i = .edgeRise ∧ s.rx.edgeSel = .rising) →
    exec i s = .next
      { s with rx := { s.rx with
          win        := s.rx.win.set s.rx.slotIdx (absStamp s.rx.ovfTally s.rx.cnt16)
          slotIdx    := Fin.ofNat 30 (s.rx.slotIdx.val + 1)
          edgeSel    := if i = .edgeFall then .rising else .falling
          windowFull := s.rx.windowFull || decide (s.rx.slotIdx = 29)
          winCount   := if s.rx.slotIdx = 29 then s.rx.winCount + 1 else s.rx.winCount
          gDirty     := s.rx.gDirty || s.rx.windowFull
          gOverrun   := s.rx.gOverrun || (s.rx.windowFull && decide (s.rx.slotIdx = 29)) } }

/-- R145, R146: an edge that is not watched for, or comes before DEC_INIT, changes nothing. -/
def Obligations.UnwatchedEdgeChangesNothing : Prop :=
  ∀ s : State,
    ((s.rx.irqEdgeEn = false ∨ s.rx.edgeSel = .rising) → exec .edgeFall s = .next s)
      ∧ ((s.rx.irqEdgeEn = false ∨ s.rx.edgeSel = .falling) → exec .edgeRise s = .next s)

/-- R147, R148, R149: thirty accepted edges after DEC_INIT fill the window with the TICK counts at which they fell, and leave the
capture unit ready for the next window, no hazard marked. -/
def Obligations.ThirtyEdgesFillTheWindow : Prop :=
  ∀ (r : RxHalf) (waits : List Nat), waits.length = 30 → waits.sum < 2 ^ 64 →
    (tickedEdges (initRx r) waits).win.toList.map BitVec.toNat = sumsFrom 0 waits
      ∧ (tickedEdges (initRx r) waits).windowFull = true
      ∧ (tickedEdges (initRx r) waits).winCount = 1
      ∧ (tickedEdges (initRx r) waits).slotIdx = 0
      ∧ (tickedEdges (initRx r) waits).edgeSel = .falling
      ∧ (tickedEdges (initRx r) waits).gDirty = false
      ∧ (tickedEdges (initRx r) waits).gOverrun = false
      ∧ (tickedEdges (initRx r) waits).buf = r.buf
      ∧ (tickedEdges (initRx r) waits).fill = 0

/-! ### The frame decoder and the byte buffer -/

/-- R160, R161: the three open bands and nothing else. -/
def Obligations.ClassifyFollowsTheOpenBands : Prop :=
  ∀ d : Stamp,
    (classify d = 1 ↔ 20 < d.toNat ∧ d.toNat < 100)
      ∧ (classify d = 3 ↔ 120 < d.toNat ∧ d.toNat < 200)
      ∧ (classify d = 5 ↔ 220 < d.toNat ∧ d.toNat < 300)
      ∧ (classify d = 0 ∨ classify d = 1 ∨ classify d = 3 ∨ classify d = 5)

/-- R162, R63: the map from positions to bits. -/
def Obligations.OffsetBitIsTheFixedMap : Prop :=
  ∀ (pos : BitVec 8) (b : Fin 8),
    offsetBit pos = some b ↔
      23 ≤ pos.toNat ∧ pos.toNat ≤ 51 ∧ (pos.toNat - 23) % 4 = 0 ∧ b.val = (51 - pos.toNat) / 4

/-- R169: an interval is the plain difference of rising timestamps; a falling pair that is no wrap of the clock, and two equal
timestamps, classify as 0. -/
def Obligations.IntervalsAreModularDifferences : Prop :=
  (∀ t : Vector Stamp 30, (intervals t.toList).length = 29
      ∧ ∀ i, ∀ h : i + 1 < 30, (intervals t.toList)[i]? = some (t[i + 1] - t[i]))
    ∧ (∀ before now : Stamp, now.toNat < before.toNat →
        (now - before).toNat = 2 ^ 64 - (before.toNat - now.toNat))
    ∧ (∀ before now : Stamp, before.toNat ≤ now.toNat → (now - before).toNat = now.toNat - before.toNat)
    ∧ (∀ before now : Stamp, now.toNat < before.toNat → before.toNat - now.toNat ≤ 2 ^ 64 - 300 →
        classify (now - before) = 0)
    ∧ (∀ t : Stamp, classify (t - t) = 0)

/-- R168: each interval adds at most 5, the position after a window is the sum of the classes of its 29 intervals, at most 145, so
the 8-bit counter never wraps; positions above 51 match no offset. -/
def Obligations.PositionIsTheSumOfTheClasses : Prop :=
  (∀ t : Vector Stamp 30,
    (decodeRun t).pos.toNat = ((intervals t.toList).map fun d => (classify d).toNat).sum
      ∧ (decodeRun t).pos.toNat ≤ 145)
    ∧ (∀ d : Stamp, (classify d).toNat ≤ 5)
    ∧ (∀ pos : BitVec 8, 51 < pos.toNat → offsetBit pos = none)

/-- R163, R165, R166: one interval of the decoder. The bit of an offset that is met takes the flag, every other bit stays, the flag
flips, and an interval in no band moves nothing. -/
def Obligations.IntervalWritesTheFlagAtItsOffset : Prop :=
  ∀ (x : DecodeRun) (d : Stamp),
    (decodeInterval x d).pos = x.pos + classify d
      ∧ (decodeInterval x d).lvl = !x.lvl
      ∧ (∀ b : Fin 8, offsetBit (x.pos + classify d) = some b →
          ∀ k, k < 8 → (decodeInterval x d).acc.getLsbD k = if k = b.val then x.lvl else x.acc.getLsbD k)
      ∧ (offsetBit (x.pos + classify d) = none → (decodeInterval x d).acc = x.acc)
      ∧ ((decodeInterval x d).oob = true ↔ x.oob = true ∨ classify d = 0)

/-- R167: an offset met again after an out-of-band interval is written again, with the flipped flag. After an interval in band the
position has grown (R168 keeps it at most 140 before the last interval), so no offset is met again then. -/
def Obligations.SecondHitOverwritesTheBit : Prop :=
  (∀ (x : DecodeRun) (d₁ d₂ : Stamp) (b : Fin 8),
    offsetBit (decodeInterval x d₁).pos = some b → classify d₂ = 0 →
    (decodeInterval x d₁).acc.getLsbD b.val = x.lvl
      ∧ (decodeInterval (decodeInterval x d₁) d₂).pos = (decodeInterval x d₁).pos
      ∧ (decodeInterval (decodeInterval x d₁) d₂).acc.getLsbD b.val = !x.lvl)
    ∧ (∀ (x : DecodeRun) (d : Stamp), x.pos.toNat ≤ 140 → classify d ≠ 0 →
        x.pos.toNat < (decodeInterval x d).pos.toNat)

/-- R170, R171: every canonical window decodes to its byte, whatever its error bits are, and is clean. -/
def Obligations.CanonicalWindowDecodesToItsByte : Prop :=
  ∀ (err : BitVec 4) (byte : Byte) (t : Vector Stamp 30), Canonical err byte t →
    decodeWindow t = byte ∧ windowOob t = false

/-- R166, R170: a window is marked out of band exactly when it is not clean. -/
def Obligations.OutOfBandMarkMeansNotClean : Prop :=
  ∀ t : Vector Stamp 30, windowOob t = false ↔ Clean t

/-- R164, R84: DEC_WINDOW answers the decoded byte and changes nothing, at any fill of the window, or is refused. -/
def Obligations.DecWindowReadsWithoutConsuming : Prop :=
  ∀ (arg : Byte) (s : State), s.tx.busy = false →
    (arg = 0 → s.rx.irqEdgeEn = true → exec (.decWindow arg) s = .next
      { s with resp := some ⟨false, false, (decodeWindow s.rx.win).setWidth 96⟩, reason := none })
    ∧ (arg = 0 → s.rx.irqEdgeEn = false →
      exec (.decWindow arg) s = .next { s with resp := some ⟨true, false, 0⟩, reason := some .rxNotInit })
    ∧ (arg ≠ 0 → exec (.decWindow arg) s = .next { s with resp := some ⟨true, false, 0⟩, reason := some .badArg })

/-- R172: DEC_POLL decodes a full window into `buf[fill]`, and answers 1 exactly when that was the twelfth byte, or is refused. -/
def Obligations.DecPollStoresTheDecodedByte : Prop :=
  ∀ (arg : Byte) (s : State), s.tx.busy = false →
    (arg = 0 → s.rx.irqEdgeEn = true → s.rx.windowFull = true → exec (.decPoll arg) s = .next
      { s with
        rx := { s.rx with buf := s.rx.buf.set s.rx.fill (decodeWindow s.rx.win), windowFull := false,
                          fill := if s.rx.fill = 11 then 0 else s.rx.fill + 1,
                          gOob := s.rx.gOob || windowOob s.rx.win }
        resp := some ⟨false, decide (s.rx.fill = 11), 0⟩, reason := none })
    ∧ (arg = 0 → s.rx.irqEdgeEn = true → s.rx.windowFull = false →
      exec (.decPoll arg) s = .next { s with resp := some ⟨false, false, 0⟩, reason := none })
    ∧ (arg = 0 → s.rx.irqEdgeEn = false →
      exec (.decPoll arg) s = .next { s with resp := some ⟨true, false, 0⟩, reason := some .rxNotInit })
    ∧ (arg ≠ 0 → exec (.decPoll arg) s = .next { s with resp := some ⟨true, false, 0⟩, reason := some .badArg })

/-- R174, R65: DEC_GETBUF answers the twelve bytes, byte `i` in bits `[8i+7 : 8i]`, and changes nothing, or is refused. -/
def Obligations.DecGetbufPacksTheTwelveBytes : Prop :=
  ∀ (arg : Byte) (s : State), s.tx.busy = false →
    (arg = 0 → s.rx.irqEdgeEn = true →
      ∃ data : RData, exec (.decGetbuf arg) s = .next { s with resp := some ⟨false, false, data⟩, reason := none }
        ∧ ∀ i : Fin 12, data.extractLsb' (8 * i.val) 8 = s.rx.buf[i])
    ∧ (arg = 0 → s.rx.irqEdgeEn = false →
      exec (.decGetbuf arg) s = .next { s with resp := some ⟨true, false, 0⟩, reason := some .rxNotInit })
    ∧ (arg ≠ 0 → exec (.decGetbuf arg) s = .next { s with resp := some ⟨true, false, 0⟩, reason := some .badArg })

/-- R176, R207: DEC_POLL, DEC_GETBUF and DEC_WINDOW before the first DEC_INIT, and with an operand. -/
def Obligations.RxOperationsAreRefusedBeforeDecInit : Prop :=
  ∀ (i : Instr) (s : State), needsRxInit i = true → s.tx.busy = false →
    (i.legal s.cfg.ft.length = true → s.rx.irqEdgeEn = false →
      exec i s = .next { s with resp := some ⟨true, false, 0⟩, reason := some .rxNotInit })
    ∧ (i.legal s.cfg.ft.length = false →
      exec i s = .next { s with resp := some ⟨true, false, 0⟩, reason := some .badArg })

/-- R173: from an empty buffer, the byte of the poll after `n` decoded windows goes to `buf[n mod 12]` and to no other place, and
that poll answers 1 exactly when `n + 1` is a multiple of twelve; a poll that decodes nothing answers 0 and changes nothing. -/
def Obligations.PollsCycleThroughTheBuffer : Prop :=
  ∀ (r : RxHalf) (ws : List (Vector Stamp 30)) (w : Vector Stamp 30), r.fill = 0 →
    (pollWindows r ws).fill.val = ws.length % 12
      ∧ (pollRet (fullWindow (pollWindows r ws) w) = true ↔ (ws.length + 1) % 12 = 0)
      ∧ (pollWindows r (ws ++ [w])).buf
          = (pollWindows r ws).buf.set (ws.length % 12) (decodeWindow w) (Nat.mod_lt _ (by decide))
      ∧ (∀ q : RxHalf, q.windowFull = false → pollRx q = q ∧ pollRet q = false)

/-- R71, R170, R172, R224: thirty edges spaced as a canonical window of `byte`, then a poll before the next edge, store exactly
that byte in the next place of the buffer and mark no hazard. -/
def Obligations.PolledCanonicalFrameStoresItsByte : Prop :=
  ∀ (r : RxHalf) (err : BitVec 4) (byte : Byte) (idle : Nat) (waits : List Nat),
    r.irqOvfEn = true → r.irqEdgeEn = true → r.slotIdx = 0 → r.windowFull = false →
    List.Forall₂ inBand (gaps (canonPositions err byte)) waits →
    (pollRx (tickedEdges r (idle :: waits))).buf = r.buf.set r.fill byte
      ∧ (pollRx (tickedEdges r (idle :: waits))).windowFull = false
      ∧ (pollRet (tickedEdges r (idle :: waits)) = true ↔ r.fill = 11)
      ∧ (pollRx (tickedEdges r (idle :: waits))).slotIdx = 0
      ∧ (pollRx (tickedEdges r (idle :: waits))).winCount = r.winCount + 1
      ∧ (pollRx (tickedEdges r (idle :: waits))).gDirty = r.gDirty
      ∧ (pollRx (tickedEdges r (idle :: waits))).gOverrun = r.gOverrun
      ∧ (pollRx (tickedEdges r (idle :: waits))).gOob = r.gOob

/-! ### Refusals -/

/-- R90, R91: a word of the reserved space. -/
def Obligations.ReservedOpcIsRefused : Prop :=
  ∀ (opc arg : Byte) (s : State), s.tx.busy = false →
    exec (.reservedOpc opc arg) s = .next { s with resp := some ⟨true, false, 0⟩, reason := some .reservedOpc }

/-- R91, R207: on a free port a host word is refused exactly when it is reserved, has a bad operand, or comes before its
initialisation, the first of these reasons counting; a refusal changes nothing but the response, and everything else is
accepted. -/
def Obligations.RefusedWordsChangeNothing : Prop :=
  ∀ (i : Instr) (s : State), isHostOp i = true → s.tx.busy = false →
    (∀ why, refusalOf s i = some why →
      exec i s = .next { s with resp := some ⟨true, false, 0⟩, reason := some why })
    ∧ (refusalOf s i = none →
      ∃ t, exec i s = .next t ∧ t.reason = none ∧ (t.resp = none ∨ ∃ r, t.resp = some r ∧ r.err = false))

/-- R220: a block that has not been initialised, its port free, refuses every host operation but ENC_INIT and DEC_INIT, which have
their own effect (R120, R140), and captures nothing; a TICK moves its counter alone. -/
def Obligations.UninitialisedBlockAcceptsOnlyInits : Prop :=
  ∀ s : State, s.tx.busy = false → s.tx.driven = false → s.rx.irqOvfEn = false → s.rx.irqEdgeEn = false →
    (∀ i : Instr, isHostOp i = true → i ≠ .encInit 0 → i ≠ .decInit 0 →
      ∃ why, refusalOf s i = some why ∧ exec i s = .next { s with resp := some ⟨true, false, 0⟩, reason := some why })
    ∧ exec (.encInit 0) s = .next
        { s with tx := { s.tx with driven := true, line := false, trace := [] },
                 resp := some ⟨false, false, 0⟩, reason := none }
    ∧ exec (.decInit 0) s = .next
        { s with
          rx := { cnt16 := 0, ovfTally := 0, win := s.rx.win, slotIdx := 0, edgeSel := .falling, windowFull := false,
                  winCount := 0, irqOvfEn := true, irqEdgeEn := true, buf := s.rx.buf, fill := 0,
                  gDirty := false, gOverrun := false, gOob := false }
          resp := some ⟨false, false, 0⟩, reason := none }
    ∧ exec .edgeFall s = .next s ∧ exec .edgeRise s = .next s
    ∧ exec .tick s = .next { s with rx := { s.rx with cnt16 := s.rx.cnt16 + 1 } }

/-! ### Reset, and the whole machine -/

/-- R42, R220: what the reset state holds of the values the spec gives. The other fields are the model's choice (log 2, log 3) and
not spoken of. -/
def Obligations.ResetHoldsTheGivenValues : Prop :=
  State.reset.tx.driven = false ∧ State.reset.tx.busy = false ∧ State.reset.tx.trace = []
    ∧ State.reset.rx.cnt16 = 0 ∧ State.reset.rx.irqOvfEn = false ∧ State.reset.rx.irqEdgeEn = false
    ∧ State.reset.rx.gDirty = false ∧ State.reset.rx.gOverrun = false ∧ State.reset.rx.gOob = false

/-- R42, R220: a hardware reset at any time, even while sending. ROMs and parameters stay; the other fields are free (log 4). -/
def Obligations.HardwareResetReturnsToTheUninitialisedState : Prop :=
  ∀ (s : State) (rest : List Input), configLegal s.cfg = true → s.inputs = .hwReset :: rest →
    ∃ t, step s = .next t ∧ t.cfg = s.cfg ∧ t.inputs = rest
      ∧ t.tx.driven = false ∧ t.tx.busy = false ∧ t.tx.trace = []
      ∧ t.rx.cnt16 = 0 ∧ t.rx.irqOvfEn = false ∧ t.rx.irqEdgeEn = false
      ∧ t.rx.gDirty = false ∧ t.rx.gOverrun = false ∧ t.rx.gOob = false

/-- The invariant holds at reset. It rests on the model's values of `slot_idx`, `edge_sel` and the tables (log 2, log 3) only
through clauses that the reset state meets because it is not initialised. -/
def Obligations.ResetMeetsTheInvariant : Prop := Inv State.reset

/-- R8, R34, R40, R41, R112, R148: every step keeps the invariant. -/
def Obligations.EveryStepKeepsTheInvariant : Prop :=
  ∀ s t : State, Inv s → step s = .next t → Inv t

/-- R90, R200, R215: from a state that meets the invariant a step always answers a next state; the one exception is trigger code 3,
which "cannot occur". -/
def Obligations.EveryStepGoesOn : Prop :=
  ∀ s : State, Inv s →
    (∃ t, step s = .next t)
      ∨ (∃ rest, s.inputs = .trigger 3 :: rest ∧ step s = .refused .reservedTrigger)

/-- R2, R20, R26, R62, R73: no instruction of one half writes the other half, and none writes the parameters and ROMs, the
environment's inputs or the free-value counter. -/
def Obligations.NeitherHalfTouchesTheOther : Prop :=
  ∀ (i : Instr) (s t : State), exec i s = .next t →
    (isTxInstr i = true → t.rx = s.rx) ∧ (isRxInstr i = true → t.tx = s.tx)
      ∧ (isReservedOpc i = true → t.tx = s.tx ∧ t.rx = s.rx)
      ∧ (isHostOp i = false → t.resp = s.resp ∧ t.reason = s.reason)
      ∧ t.cfg = s.cfg ∧ t.inputs = s.inputs ∧ t.freeCtr = s.freeCtr

/-- R62, R32, R68: who writes each shared field of the receive half. -/
def Obligations.EachReceiveFieldHasItsWriters : Prop :=
  ∀ (i : Instr) (s t : State), exec i s = .next t →
    (t.rx.win ≠ s.rx.win → i = .edgeFall ∨ i = .edgeRise)
      ∧ (t.rx.buf ≠ s.rx.buf → i = .decPoll 0)
      ∧ (t.rx.cnt16 ≠ s.rx.cnt16 → i = .tick ∨ i = .decInit 0)
      ∧ (t.rx.ovfTally ≠ s.rx.ovfTally → i = .tick ∨ i = .decInit 0)
      ∧ (t.rx.fill ≠ s.rx.fill → i = .decPoll 0 ∨ i = .decInit 0)
      ∧ (t.rx.slotIdx ≠ s.rx.slotIdx ∨ t.rx.edgeSel ≠ s.rx.edgeSel ∨ t.rx.winCount ≠ s.rx.winCount →
          i = .edgeFall ∨ i = .edgeRise ∨ i = .decInit 0)
      ∧ (s.rx.windowFull = false → t.rx.windowFull = true → i = .edgeFall ∨ i = .edgeRise)
      ∧ (s.rx.windowFull = true → t.rx.windowFull = false → i = .decPoll 0 ∨ i = .decInit 0)
      ∧ (t.rx.irqOvfEn ≠ s.rx.irqOvfEn ∨ t.rx.irqEdgeEn ≠ s.rx.irqEdgeEn → i = .decInit 0)

/-- R41, R206: a step clears a ghost flag or an interrupt enable only by DEC_INIT or hardware reset; the parameters and ROMs never
change. -/
def Obligations.GhostFlagsAndEnablesAreSticky : Prop :=
  ∀ s t : State, step s = .next t →
    t.cfg = s.cfg
      ∧ ((∃ rest, s.inputs = .hwReset :: rest) ∨
          ((s.rx.irqOvfEn = true → t.rx.irqOvfEn = true) ∧ (s.rx.irqEdgeEn = true → t.rx.irqEdgeEn = true)
            ∧ ((∃ rest, s.inputs = .host 0x0400 :: rest ∧ s.tx.busy = false) ∨
                ((s.rx.gDirty = true → t.rx.gDirty = true) ∧ (s.rx.gOverrun = true → t.rx.gOverrun = true)
                  ∧ (s.rx.gOob = true → t.rx.gOob = true)))))

/-- R2, R127, R227, R231, D29: the halves meet at the host port only, through `tx_busy`. A trigger does the same whatever the
transmit half holds; a receive operation does the same whatever it holds but for `tx_busy`, which blocks it; a transmit
instruction, and a step of the sequencer on transmitter time or with no input (log 1, log 6), does the same whatever the receive
half holds. -/
def Obligations.TransmitterAndReceiverDoNotInterfere : Prop :=
  (∀ (i : Instr) (s t : State) (x : TxHalf), isTrigger i = true → exec i s = .next t →
      exec i { s with tx := x } = .next { t with tx := x })
    ∧ (∀ (i : Instr) (s t : State) (x : TxHalf), isRxInstr i = true → x.busy = s.tx.busy → exec i s = .next t →
        exec i { s with tx := x } = .next { t with tx := x })
    ∧ (∀ (i : Instr) (s : State), isRxInstr i = true → isHostOp i = true → s.tx.busy = true → exec i s = .next s)
    ∧ (∀ (i : Instr) (s t : State) (x : RxHalf), isTxInstr i = true → exec i s = .next t →
        exec i { s with rx := x } = .next { t with rx := x })
    ∧ (∀ (s t : State) (x : RxHalf),
        (s.inputs = [] ∨ ∃ rest, s.inputs = .txSymbol :: rest ∨ ∃ n, s.inputs = .txTime n :: rest) → step s = .next t →
        step { s with rx := x } = .next { t with rx := x })

/-! ### What is still to be sent -/

/-- R110, R122, R124: when TX_LEVEL, TX_FRAME or ENC_SEND has just been accepted, nothing of it has been emitted and its whole pulse
train is to come. -/
def Obligations.AcceptedOperationHasItsWholeTrainToCome : Prop :=
  ∀ (s : State) (i : Instr) (op : TxOp), configLegal s.cfg = true → txOpOf s.cfg i = some op →
    s.tx.busy = false → s.tx.driven = true →
    ∃ u, exec i s = .next u ∧ u.tx.trace = s.tx.trace ∧ u.tx.busy = true
      ∧ trainToCome u.cfg u.tx = opTrain s.cfg op

/-- R104, R127, R130, R234: every step in the middle of a transmission, whatever input it takes but a hardware reset, keeps what has
been emitted followed by what is still to come; and when `tx_busy` falls, all that was to come has been emitted. The places of
`tx_pc` are log 5's, the grain of time log 6's, and that a segment is appended when it begins is log 16. -/
def Obligations.EveryStepKeepsTheWholeTrain : Prop :=
  ∀ s t : State, Inv s → s.tx.busy = true → (∀ rest, s.inputs ≠ .hwReset :: rest) → step s = .next t →
    t.tx.trace ++ trainToCome t.cfg t.tx = s.tx.trace ++ trainToCome s.cfg s.tx
      ∧ (t.tx.busy = false → t.tx.trace = s.tx.trace ++ trainToCome s.cfg s.tx)
end

