-- ==== Sys2Proof/Laws/State.lean ====
section
/-! SUPPORT. One lemma for each field and each update of the state: what an update leaves and what it writes, true by rfl. -/

namespace Sys2Proof.Machine


/-! ### State.respond -/

@[simp] theorem respond_cfg (x : Response) (s : State) : (respond x s).cfg = s.cfg := rfl
@[simp] theorem respond_tx (x : Response) (s : State) : (respond x s).tx = s.tx := rfl
@[simp] theorem respond_rx (x : Response) (s : State) : (respond x s).rx = s.rx := rfl
@[simp] theorem respond_resp (x : Response) (s : State) : (respond x s).resp = some x := rfl
@[simp] theorem respond_reason (x : Response) (s : State) : (respond x s).reason = none := rfl
@[simp] theorem respond_inputs (x : Response) (s : State) : (respond x s).inputs = s.inputs := rfl
@[simp] theorem respond_freeCtr (x : Response) (s : State) : (respond x s).freeCtr = s.freeCtr := rfl

/-! ### State: refuse -/

@[simp] theorem refuse_cfg (why : RefuseReason) (s : State) : (refuse why s).cfg = s.cfg := rfl
@[simp] theorem refuse_tx (why : RefuseReason) (s : State) : (refuse why s).tx = s.tx := rfl
@[simp] theorem refuse_rx (why : RefuseReason) (s : State) : (refuse why s).rx = s.rx := rfl
@[simp] theorem refuse_resp (why : RefuseReason) (s : State) : (refuse why s).resp = some errResponse := rfl
@[simp] theorem refuse_reason (why : RefuseReason) (s : State) : (refuse why s).reason = some why := rfl
@[simp] theorem refuse_inputs (why : RefuseReason) (s : State) : (refuse why s).inputs = s.inputs := rfl
@[simp] theorem refuse_freeCtr (why : RefuseReason) (s : State) : (refuse why s).freeCtr = s.freeCtr := rfl

/-! ### State: beginTx -/

@[simp] theorem beginTx_cfg (op : TxOp) (pc : TxPc) (s : State) : (beginTx op pc s).cfg = s.cfg := rfl
@[simp] theorem beginTx_tx (op : TxOp) (pc : TxPc) (s : State) : (beginTx op pc s).tx = { s.tx with busy := true, op := op, pc := pc } := rfl
@[simp] theorem beginTx_rx (op : TxOp) (pc : TxPc) (s : State) : (beginTx op pc s).rx = s.rx := rfl
@[simp] theorem beginTx_resp (op : TxOp) (pc : TxPc) (s : State) : (beginTx op pc s).resp = none := rfl
@[simp] theorem beginTx_reason (op : TxOp) (pc : TxPc) (s : State) : (beginTx op pc s).reason = none := rfl
@[simp] theorem beginTx_inputs (op : TxOp) (pc : TxPc) (s : State) : (beginTx op pc s).inputs = s.inputs := rfl
@[simp] theorem beginTx_freeCtr (op : TxOp) (pc : TxPc) (s : State) : (beginTx op pc s).freeCtr = s.freeCtr := rfl

/-! ### State: endTx -/

@[simp] theorem endTx_cfg (s : State) : (endTx s).cfg = s.cfg := rfl
@[simp] theorem endTx_tx (s : State) : (endTx s).tx = { s.tx with busy := false } := rfl
@[simp] theorem endTx_rx (s : State) : (endTx s).rx = s.rx := rfl
@[simp] theorem endTx_resp (s : State) : (endTx s).resp = some okResponse := rfl
@[simp] theorem endTx_reason (s : State) : (endTx s).reason = none := rfl
@[simp] theorem endTx_inputs (s : State) : (endTx s).inputs = s.inputs := rfl
@[simp] theorem endTx_freeCtr (s : State) : (endTx s).freeCtr = s.freeCtr := rfl

/-! ### State: emitTrain -/

@[simp] theorem emitTrain_cfg (gs : List Segment) (s : State) : (emitTrain gs s).cfg = s.cfg := rfl
@[simp] theorem emitTrain_tx (gs : List Segment) (s : State) : (emitTrain gs s).tx = emitAll gs s.tx := rfl
@[simp] theorem emitTrain_rx (gs : List Segment) (s : State) : (emitTrain gs s).rx = s.rx := rfl
@[simp] theorem emitTrain_resp (gs : List Segment) (s : State) : (emitTrain gs s).resp = s.resp := rfl
@[simp] theorem emitTrain_reason (gs : List Segment) (s : State) : (emitTrain gs s).reason = s.reason := rfl
@[simp] theorem emitTrain_inputs (gs : List Segment) (s : State) : (emitTrain gs s).inputs = s.inputs := rfl
@[simp] theorem emitTrain_freeCtr (gs : List Segment) (s : State) : (emitTrain gs s).freeCtr = s.freeCtr := rfl

/-! ### State: emitSilence -/

@[simp] theorem emitSilence_cfg (d : Nat) (s : State) : (emitSilence d s).cfg = s.cfg := rfl
@[simp] theorem emitSilence_tx (d : Nat) (s : State) : (emitSilence d s).tx = emit ⟨false, d⟩ s.tx := rfl
@[simp] theorem emitSilence_rx (d : Nat) (s : State) : (emitSilence d s).rx = s.rx := rfl
@[simp] theorem emitSilence_resp (d : Nat) (s : State) : (emitSilence d s).resp = s.resp := rfl
@[simp] theorem emitSilence_reason (d : Nat) (s : State) : (emitSilence d s).reason = s.reason := rfl
@[simp] theorem emitSilence_inputs (d : Nat) (s : State) : (emitSilence d s).inputs = s.inputs := rfl
@[simp] theorem emitSilence_freeCtr (d : Nat) (s : State) : (emitSilence d s).freeCtr = s.freeCtr := rfl

/-! ### State: popInput -/

@[simp] theorem popInput_cfg (rest : List Input) (s : State) : (popInput rest s).cfg = s.cfg := rfl
@[simp] theorem popInput_tx (rest : List Input) (s : State) : (popInput rest s).tx = s.tx := rfl
@[simp] theorem popInput_rx (rest : List Input) (s : State) : (popInput rest s).rx = s.rx := rfl
@[simp] theorem popInput_resp (rest : List Input) (s : State) : (popInput rest s).resp = s.resp := rfl
@[simp] theorem popInput_reason (rest : List Input) (s : State) : (popInput rest s).reason = s.reason := rfl
@[simp] theorem popInput_inputs (rest : List Input) (s : State) : (popInput rest s).inputs = rest := rfl
@[simp] theorem popInput_freeCtr (rest : List Input) (s : State) : (popInput rest s).freeCtr = s.freeCtr := rfl

/-! ### State: hardwareReset -/

@[simp] theorem hardwareReset_cfg (s : State) : (hardwareReset s).cfg = s.cfg := rfl
@[simp] theorem hardwareReset_tx (s : State) : (hardwareReset s).tx = resetTx s.freeCtr s.tx := rfl
@[simp] theorem hardwareReset_rx (s : State) : (hardwareReset s).rx = resetRx s.freeCtr := rfl
@[simp] theorem hardwareReset_resp (s : State) : (hardwareReset s).resp = none := rfl
@[simp] theorem hardwareReset_reason (s : State) : (hardwareReset s).reason = none := rfl
@[simp] theorem hardwareReset_inputs (s : State) : (hardwareReset s).inputs = s.inputs := rfl
@[simp] theorem hardwareReset_freeCtr (s : State) : (hardwareReset s).freeCtr = s.freeCtr + 1 := rfl

/-! ### TxHalf: emit -/

@[simp] theorem emit_driven (g : Segment) (t : TxHalf) : (emit g t).driven = t.driven := rfl
@[simp] theorem emit_line (g : Segment) (t : TxHalf) : (emit g t).line = g.v := rfl
@[simp] theorem emit_busy (g : Segment) (t : TxHalf) : (emit g t).busy = t.busy := rfl
@[simp] theorem emit_op (g : Segment) (t : TxHalf) : (emit g t).op = t.op := rfl
@[simp] theorem emit_pc (g : Segment) (t : TxHalf) : (emit g t).pc = t.pc := rfl
@[simp] theorem emit_trace (g : Segment) (t : TxHalf) : (emit g t).trace = t.trace ++ [g] := rfl

/-! ### TxHalf: initTx -/

@[simp] theorem initTx_driven (t : TxHalf) : (initTx t).driven = true := rfl
@[simp] theorem initTx_line (t : TxHalf) : (initTx t).line = false := rfl
@[simp] theorem initTx_busy (t : TxHalf) : (initTx t).busy = t.busy := rfl
@[simp] theorem initTx_op (t : TxHalf) : (initTx t).op = t.op := rfl
@[simp] theorem initTx_pc (t : TxHalf) : (initTx t).pc = t.pc := rfl
@[simp] theorem initTx_trace (t : TxHalf) : (initTx t).trace = [] := rfl

/-! ### TxHalf: resetTx -/

@[simp] theorem resetTx_driven (n : Nat) (t : TxHalf) : (resetTx n t).driven = false := rfl
@[simp] theorem resetTx_line (n : Nat) (t : TxHalf) : (resetTx n t).line = drawnBit n 0 := rfl
@[simp] theorem resetTx_busy (n : Nat) (t : TxHalf) : (resetTx n t).busy = false := rfl
@[simp] theorem resetTx_op (n : Nat) (t : TxHalf) : (resetTx n t).op = t.op := rfl
@[simp] theorem resetTx_pc (n : Nat) (t : TxHalf) : (resetTx n t).pc = drawnPc n := rfl
@[simp] theorem resetTx_trace (n : Nat) (t : TxHalf) : (resetTx n t).trace = [] := rfl

/-! ### RxHalf: initRx -/

@[simp] theorem initRx_cnt16 (r : RxHalf) : (initRx r).cnt16 = 0 := rfl
@[simp] theorem initRx_ovfTally (r : RxHalf) : (initRx r).ovfTally = 0 := rfl
@[simp] theorem initRx_win (r : RxHalf) : (initRx r).win = r.win := rfl
@[simp] theorem initRx_slotIdx (r : RxHalf) : (initRx r).slotIdx = 0 := rfl
@[simp] theorem initRx_edgeSel (r : RxHalf) : (initRx r).edgeSel = .falling := rfl
@[simp] theorem initRx_windowFull (r : RxHalf) : (initRx r).windowFull = false := rfl
@[simp] theorem initRx_winCount (r : RxHalf) : (initRx r).winCount = 0 := rfl
@[simp] theorem initRx_irqOvfEn (r : RxHalf) : (initRx r).irqOvfEn = true := rfl
@[simp] theorem initRx_irqEdgeEn (r : RxHalf) : (initRx r).irqEdgeEn = true := rfl
@[simp] theorem initRx_buf (r : RxHalf) : (initRx r).buf = r.buf := rfl
@[simp] theorem initRx_fill (r : RxHalf) : (initRx r).fill = 0 := rfl
@[simp] theorem initRx_gDirty (r : RxHalf) : (initRx r).gDirty = false := rfl
@[simp] theorem initRx_gOverrun (r : RxHalf) : (initRx r).gOverrun = false := rfl
@[simp] theorem initRx_gOob (r : RxHalf) : (initRx r).gOob = false := rfl

/-! ### RxHalf: ghostOnEdge -/

@[simp] theorem ghostOnEdge_cnt16 (r : RxHalf) : (ghostOnEdge r).cnt16 = r.cnt16 := rfl
@[simp] theorem ghostOnEdge_ovfTally (r : RxHalf) : (ghostOnEdge r).ovfTally = r.ovfTally := rfl
@[simp] theorem ghostOnEdge_win (r : RxHalf) : (ghostOnEdge r).win = r.win := rfl
@[simp] theorem ghostOnEdge_slotIdx (r : RxHalf) : (ghostOnEdge r).slotIdx = r.slotIdx := rfl
@[simp] theorem ghostOnEdge_edgeSel (r : RxHalf) : (ghostOnEdge r).edgeSel = r.edgeSel := rfl
@[simp] theorem ghostOnEdge_windowFull (r : RxHalf) : (ghostOnEdge r).windowFull = r.windowFull := rfl
@[simp] theorem ghostOnEdge_winCount (r : RxHalf) : (ghostOnEdge r).winCount = r.winCount := rfl
@[simp] theorem ghostOnEdge_irqOvfEn (r : RxHalf) : (ghostOnEdge r).irqOvfEn = r.irqOvfEn := rfl
@[simp] theorem ghostOnEdge_irqEdgeEn (r : RxHalf) : (ghostOnEdge r).irqEdgeEn = r.irqEdgeEn := rfl
@[simp] theorem ghostOnEdge_buf (r : RxHalf) : (ghostOnEdge r).buf = r.buf := rfl
@[simp] theorem ghostOnEdge_fill (r : RxHalf) : (ghostOnEdge r).fill = r.fill := rfl
@[simp] theorem ghostOnEdge_gDirty (r : RxHalf) : (ghostOnEdge r).gDirty = dirtyAfterEdge r := rfl
@[simp] theorem ghostOnEdge_gOverrun (r : RxHalf) : (ghostOnEdge r).gOverrun = overrunAfterEdge r := rfl
@[simp] theorem ghostOnEdge_gOob (r : RxHalf) : (ghostOnEdge r).gOob = r.gOob := rfl

/-! ### RxHalf: completeWindow -/

@[simp] theorem completeWindow_cnt16 (r : RxHalf) : (completeWindow r).cnt16 = r.cnt16 := rfl
@[simp] theorem completeWindow_ovfTally (r : RxHalf) : (completeWindow r).ovfTally = r.ovfTally := rfl
@[simp] theorem completeWindow_win (r : RxHalf) : (completeWindow r).win = r.win := rfl
@[simp] theorem completeWindow_slotIdx (r : RxHalf) : (completeWindow r).slotIdx = 0 := rfl
@[simp] theorem completeWindow_edgeSel (r : RxHalf) : (completeWindow r).edgeSel = r.edgeSel := rfl
@[simp] theorem completeWindow_windowFull (r : RxHalf) : (completeWindow r).windowFull = true := rfl
@[simp] theorem completeWindow_winCount (r : RxHalf) : (completeWindow r).winCount = r.winCount + 1 := rfl
@[simp] theorem completeWindow_irqOvfEn (r : RxHalf) : (completeWindow r).irqOvfEn = r.irqOvfEn := rfl
@[simp] theorem completeWindow_irqEdgeEn (r : RxHalf) : (completeWindow r).irqEdgeEn = r.irqEdgeEn := rfl
@[simp] theorem completeWindow_buf (r : RxHalf) : (completeWindow r).buf = r.buf := rfl
@[simp] theorem completeWindow_fill (r : RxHalf) : (completeWindow r).fill = r.fill := rfl
@[simp] theorem completeWindow_gDirty (r : RxHalf) : (completeWindow r).gDirty = r.gDirty := rfl
@[simp] theorem completeWindow_gOverrun (r : RxHalf) : (completeWindow r).gOverrun = r.gOverrun := rfl
@[simp] theorem completeWindow_gOob (r : RxHalf) : (completeWindow r).gOob = r.gOob := rfl

/-! ### RxHalf: storeEdge -/

@[simp] theorem storeEdge_cnt16 (r : RxHalf) : (storeEdge r).cnt16 = r.cnt16 := rfl
@[simp] theorem storeEdge_ovfTally (r : RxHalf) : (storeEdge r).ovfTally = r.ovfTally := rfl
@[simp] theorem storeEdge_win (r : RxHalf) : (storeEdge r).win = r.win.set r.slotIdx (stampNow r) := rfl
@[simp] theorem storeEdge_slotIdx (r : RxHalf) : (storeEdge r).slotIdx = nextSlot r.slotIdx := rfl
@[simp] theorem storeEdge_edgeSel (r : RxHalf) : (storeEdge r).edgeSel = r.edgeSel.flip := rfl
@[simp] theorem storeEdge_windowFull (r : RxHalf) : (storeEdge r).windowFull = r.windowFull := rfl
@[simp] theorem storeEdge_winCount (r : RxHalf) : (storeEdge r).winCount = r.winCount := rfl
@[simp] theorem storeEdge_irqOvfEn (r : RxHalf) : (storeEdge r).irqOvfEn = r.irqOvfEn := rfl
@[simp] theorem storeEdge_irqEdgeEn (r : RxHalf) : (storeEdge r).irqEdgeEn = r.irqEdgeEn := rfl
@[simp] theorem storeEdge_buf (r : RxHalf) : (storeEdge r).buf = r.buf := rfl
@[simp] theorem storeEdge_fill (r : RxHalf) : (storeEdge r).fill = r.fill := rfl
@[simp] theorem storeEdge_gDirty (r : RxHalf) : (storeEdge r).gDirty = r.gDirty := rfl
@[simp] theorem storeEdge_gOverrun (r : RxHalf) : (storeEdge r).gOverrun = r.gOverrun := rfl
@[simp] theorem storeEdge_gOob (r : RxHalf) : (storeEdge r).gOob = r.gOob := rfl

end Sys2Proof.Machine
end

