-- ==== Sys2Proof/Laws/Ops.lean ====
section
/-! SUPPORT. What each shared operation can do, said once: acceptance and refusal of host words, emission, the operands. -/

namespace Sys2Proof.Machine

/-- A free port runs the operation (R127). -/
theorem hostOp_free {s : State} (f : State → State) (h : s.tx.busy = false) : hostOp s f = .next (f s) := by
  simp [hostOp, h]

/-- A busy port does nothing (R127). -/
theorem hostOp_busy {s : State} (f : State → State) (h : s.tx.busy = true) : hostOp s f = .next s := by
  simp [hostOp, h]

/-- All that a host operation can answer. -/
theorem hostOp_cases {s t : State} {f : State → State} (h : hostOp s f = .next t) :
    (s.tx.busy = true ∧ t = s) ∨ (s.tx.busy = false ∧ t = f s) := by
  unfold hostOp at h
  split at h
  · rename_i hb
    exact .inl ⟨hb, by simpa using h.symm⟩
  · rename_i hb
    exact .inr ⟨by simpa using hb, by simpa using h.symm⟩

@[simp] theorem argNone_iff (arg : Byte) : argNone arg = true ↔ arg = 0 := by
  rw [argNone, decide_eq_true_iff]
  exact ⟨fun h => BitVec.eq_of_toNat_eq h, fun h => by rw [h]; rfl⟩

/-- All that a receive operation does on a free port (R176, R207). -/
theorem rxOp_free {s : State} (arg : Byte) (f : State → State) (h : s.tx.busy = false) :
    rxOp arg s f = .next (if arg = 0 then (if s.rx.irqEdgeEn = true then f s else refuse .rxNotInit s)
      else refuse .badArg s) := by
  rw [rxOp, hostOp_free _ h]
  by_cases ha : arg = 0
  · simp [argNone, ha]
  · have : argNone arg = false := by
      rw [Bool.eq_false_iff, ne_eq, argNone_iff]
      exact ha
    rw [this, if_neg ha]
    rfl

/-- All that the start of a TX operation does (R128). -/
theorem startTx_eq (op : TxOp) (s : State) :
    startTx op s = if s.tx.driven = true then beginTx op (startPos s.cfg op) s else refuse .txNotInit s := rfl

theorem argCommand_eq_some {arg : Byte} {cmd : Command} :
    argCommand arg = some cmd ↔ arg = (match cmd with | .requestCount => 0 | .clearMemory => 1) := by
  constructor
  · intro h
    unfold argCommand at h
    split at h
    · rename_i h0
      cases h
      exact BitVec.eq_of_toNat_eq h0
    · rename_i h1
      cases h
      exact BitVec.eq_of_toNat_eq h1
    · cases h
  · rintro rfl
    cases cmd <;> rfl

theorem argCommand_eq_none {arg : Byte} : argCommand arg = none ↔ 1 < arg.toNat := by
  unfold argCommand
  split
  · rename_i h0
    simp [h0]
  · rename_i h1
    simp [h1]
  · rename_i h0 h1
    have h0' : arg.toNat ≠ 0 := h0
    have h1' : arg.toNat ≠ 1 := h1
    simp only [true_iff]
    omega

/-- Emission of a list of segments: the trace grows by the list (R104). -/
@[simp] theorem emitAll_trace (gs : List Segment) (t : TxHalf) : (emitAll gs t).trace = t.trace ++ gs := by
  induction gs generalizing t with
  | nil => simp [emitAll]
  | cons g gs ih =>
    have := ih (emit g t)
    simp only [emitAll, List.foldl_cons] at this ⊢
    rw [this]
    simp

@[simp] theorem emitAll_driven (gs : List Segment) (t : TxHalf) : (emitAll gs t).driven = t.driven := by
  induction gs generalizing t with
  | nil => rfl
  | cons g gs ih => exact ih (emit g t)

@[simp] theorem emitAll_busy (gs : List Segment) (t : TxHalf) : (emitAll gs t).busy = t.busy := by
  induction gs generalizing t with
  | nil => rfl
  | cons g gs ih => exact ih (emit g t)

@[simp] theorem emitAll_op (gs : List Segment) (t : TxHalf) : (emitAll gs t).op = t.op := by
  induction gs generalizing t with
  | nil => rfl
  | cons g gs ih => exact ih (emit g t)

@[simp] theorem emitAll_pc (gs : List Segment) (t : TxHalf) : (emitAll gs t).pc = t.pc := by
  induction gs generalizing t with
  | nil => rfl
  | cons g gs ih => exact ih (emit g t)

/-- The line has the value of the last segment emitted (R104). -/
theorem emitAll_line_append (gs : List Segment) (g : Segment) (t : TxHalf) : (emitAll (gs ++ [g]) t).line = g.v := by
  simp [emitAll]

theorem emitAll_nil (t : TxHalf) : emitAll [] t = t := rfl

theorem emitAll_singleton (g : Segment) (t : TxHalf) : emitAll [g] t = emit g t := rfl

/-- The next slot, as a number (R30). -/
theorem nextSlot_val (i : Fin 30) : (nextSlot i).val = (i.val + 1) % 30 := rfl

@[simp] theorem Polarity.flip_falling : Polarity.flip .falling = .rising := rfl
@[simp] theorem Polarity.flip_rising : Polarity.flip .rising = .falling := rfl

end Sys2Proof.Machine
end

