-- ==== Sys2Proof/Laws/Capture.lean ====
section
/-! SUPPORT. What a TICK and an edge can do to the receive half (R141 to R147, R152). -/

namespace Sys2Proof.Machine

/-- All that a TICK does (R141, R142). -/
theorem tickRx_cases (r : RxHalf) :
    (r.cnt16.toNat ≠ 65535 ∧ tickRx r = { r with cnt16 := r.cnt16 + 1 })
      ∨ (r.cnt16.toNat = 65535 ∧ r.irqOvfEn = true ∧ tickRx r = { r with cnt16 := 0, ovfTally := r.ovfTally + 1 })
      ∨ (r.cnt16.toNat = 65535 ∧ r.irqOvfEn = false ∧ tickRx r = { r with cnt16 := 0 }) := by
  unfold tickRx overflowTrigger
  by_cases h : r.cnt16.toNat = 65535
  · cases r.irqOvfEn <;> simp [h]
  · simp [h]

/-- A TICK writes the counter and the tally only. -/
theorem tickRx_frame (r : RxHalf) :
    tickRx r = { r with cnt16 := (tickRx r).cnt16, ovfTally := (tickRx r).ovfTally } := by
  obtain ⟨-, h⟩ | ⟨-, -, h⟩ | ⟨-, -, h⟩ := tickRx_cases r <;> rw [h]

/-- All that an edge does (R144 to R146). -/
theorem edgeRx_cases (p : Polarity) (r : RxHalf) :
    (r.irqEdgeEn = true ∧ p = r.edgeSel ∧ edgeRx p r = acceptEdge r)
      ∨ ((r.irqEdgeEn = false ∨ p ≠ r.edgeSel) ∧ edgeRx p r = r) := by
  unfold edgeRx
  by_cases he : r.irqEdgeEn = true
  · by_cases hp : p = r.edgeSel
    · exact .inl ⟨he, hp, by simp [he, hp]⟩
    · exact .inr ⟨.inr hp, by simp [he, hp]⟩
  · exact .inr ⟨.inl (by simpa using he), by simp [he]⟩

/-- The two shapes of an accepted edge: inside the window, and at its last entry (R144, R147). -/
theorem acceptEdge_cases (r : RxHalf) :
    (r.slotIdx.val < 29 ∧ acceptEdge r = storeEdge (ghostOnEdge r))
      ∨ (r.slotIdx.val = 29 ∧ acceptEdge r = completeWindow (storeEdge (ghostOnEdge r))) := by
  unfold acceptEdge
  by_cases h : r.slotIdx.val = 29
  · exact .inr ⟨h, by simp [h]⟩
  · exact .inl ⟨by omega, by simp [h]⟩

/-- An accepted edge leaves the clock, the enables, the buffer and `g_oob` alone. -/
theorem acceptEdge_frame (r : RxHalf) :
    (acceptEdge r).cnt16 = r.cnt16 ∧ (acceptEdge r).ovfTally = r.ovfTally ∧ (acceptEdge r).irqOvfEn = r.irqOvfEn
      ∧ (acceptEdge r).irqEdgeEn = r.irqEdgeEn ∧ (acceptEdge r).buf = r.buf ∧ (acceptEdge r).fill = r.fill
      ∧ (acceptEdge r).gOob = r.gOob := by
  obtain ⟨-, h⟩ | ⟨-, h⟩ := acceptEdge_cases r <;> rw [h] <;> simp

/-- What an accepted edge writes whatever the slot (R144). -/
theorem acceptEdge_writes (r : RxHalf) :
    (acceptEdge r).win = r.win.set r.slotIdx (stampNow r) ∧ (acceptEdge r).edgeSel = r.edgeSel.flip
      ∧ (acceptEdge r).slotIdx = nextSlot r.slotIdx := by
  obtain ⟨-, h⟩ | ⟨h29, h⟩ := acceptEdge_cases r
  · rw [h]
    exact ⟨rfl, rfl, rfl⟩
  · rw [h]
    refine ⟨rfl, rfl, ?_⟩
    apply Fin.ext
    rw [nextSlot_val, h29]
    rfl

end Sys2Proof.Machine
end

