-- ==== Sys2Proof/Laws/Decode.lean ====
section
/-! SUPPORT. The fields of a host word (R81), and what the small decoders answer. -/

namespace Sys2Proof

@[simp] theorem opcOf_hostWord (opc arg : Byte) : opcOf (hostWord opc arg) = opc := by
  unfold opcOf hostWord
  rw [BitVec.extractLsb'_append_eq_left]

@[simp] theorem argOf_hostWord (opc arg : Byte) : argOf (hostWord opc arg) = arg := by
  unfold argOf hostWord
  rw [BitVec.extractLsb'_append_eq_right]

theorem hostWord_opcOf_argOf (w : HostWord) : hostWord (opcOf w) (argOf w) = w := by
  unfold hostWord opcOf argOf
  ext i hi
  simp only [BitVec.getElem_append, BitVec.getElem_extractLsb']
  split
  · rename_i h
    rw [BitVec.getLsbD_eq_getElem (by omega)]
    simp
  · rename_i h
    rw [BitVec.getLsbD_eq_getElem (by omega)]
    congr 1
    omega

theorem opcOf_toNat (w : HostWord) : (opcOf w).toNat = w.toNat / 256 := by
  unfold opcOf
  rw [BitVec.extractLsb'_toNat, Nat.shiftRight_eq_div_pow]
  have := w.isLt
  omega

/-- A word whose `opc` is in the reserved space is read as reserved (R90). -/
theorem decodeHost_reserved (w : HostWord) (h : 8 ≤ (opcOf w).toNat) :
    decodeHost w = .reservedOpc (opcOf w) (argOf w) := by
  unfold decodeHost
  split <;> first | omega | rfl

/-- A symbol code has a reading exactly when it is at most 4 (R86, R90). -/
theorem decodeSymbol_isSome (c : SymCode) : (decodeSymbol c).isSome = decide (c.toNat ≤ 4) := by
  revert c
  decide

/-- A trigger code has a reading exactly when it is not 3 (R89, R90). -/
theorem decodeTrigger_isSome (c : TrigCode) : (decodeTrigger c).isSome = decide (c.toNat ≤ 2) := by
  revert c
  decide

end Sys2Proof
end

