-- ==== Sys2Proof/Laws/Decoder.lean ====
section
/-! SUPPORT. The classes of an interval, one interval of the decoder, and a poll (R160 to R172). -/

namespace Sys2Proof.Machine

/-- The four cases of `Classify` (R160). -/
theorem classify_cases (d : Stamp) :
    (20 < d.toNat ∧ d.toNat < 100 ∧ classify d = 1) ∨ (120 < d.toNat ∧ d.toNat < 200 ∧ classify d = 3)
      ∨ (220 < d.toNat ∧ d.toNat < 300 ∧ classify d = 5)
      ∨ ((d.toNat ≤ 20 ∨ 100 ≤ d.toNat) ∧ (d.toNat ≤ 120 ∨ 200 ≤ d.toNat) ∧ (d.toNat ≤ 220 ∨ 300 ≤ d.toNat)
          ∧ classify d = 0) := by
  unfold classify
  split
  · exact .inl ⟨by omega, by omega, rfl⟩
  · split
    · exact .inr (.inl ⟨by omega, by omega, rfl⟩)
    · split
      · exact .inr (.inr (.inl ⟨by omega, by omega, rfl⟩))
      · exact .inr (.inr (.inr ⟨by omega, by omega, by omega, rfl⟩))

/-- An interval adds at most 5 (R168). -/
theorem classify_le (d : Stamp) : (classify d).toNat ≤ 5 := by
  obtain ⟨-, -, h⟩ | ⟨-, -, h⟩ | ⟨-, -, h⟩ | ⟨-, -, -, h⟩ := classify_cases d <;> rw [h] <;> decide

@[simp] theorem decodeInterval_pos (x : DecodeRun) (d : Stamp) : (decodeInterval x d).pos = x.pos + classify d := rfl
@[simp] theorem decodeInterval_lvl (x : DecodeRun) (d : Stamp) : (decodeInterval x d).lvl = !x.lvl := rfl
@[simp] theorem decodeInterval_oob (x : DecodeRun) (d : Stamp) :
    (decodeInterval x d).oob = (x.oob || decide (classify d = 0)) := rfl

/-- A window has 29 intervals (R163). -/
theorem intervals_length (t : List Stamp) : (intervals t).length = t.length - 1 := by
  simp [intervals]

/-- A poll with nothing to decode (R172). -/
theorem pollDecode_empty {r : RxHalf} (h : r.windowFull = false) : pollDecode r = r := by
  simp [pollDecode, h]

/-- A poll leaves the capture unit's registers alone, but for the flag it clears (R62, R172). -/
theorem pollRx_frame (r : RxHalf) :
    (pollRx r).cnt16 = r.cnt16 ∧ (pollRx r).ovfTally = r.ovfTally ∧ (pollRx r).win = r.win
      ∧ (pollRx r).slotIdx = r.slotIdx ∧ (pollRx r).edgeSel = r.edgeSel ∧ (pollRx r).winCount = r.winCount
      ∧ (pollRx r).irqOvfEn = r.irqOvfEn ∧ (pollRx r).irqEdgeEn = r.irqEdgeEn ∧ (pollRx r).gDirty = r.gDirty
      ∧ (pollRx r).gOverrun = r.gOverrun ∧ (pollRx r).windowFull = false := by
  cases h : r.windowFull <;> simp [pollRx, pollDecode, h]

end Sys2Proof.Machine
end

