-- ==== Sys2Proof/Laws/PerInstr.lean ====
section
/-! SUPPORT. The family EncodeFormat: each instruction's code stands in the format of its table row, with the row's `opc` or
code (R82, R86, R89). -/

namespace Sys2Proof.Laws.EncodeFormat

/-- The code is a host word with this `opc` and `arg` (R81). -/
def isHost (c : Code) (opc arg : Byte) : Prop := ∃ w, c = .host w ∧ opcOf w = opc ∧ argOf w = arg

/-- The format and the fixed fields of the instruction's row. -/
def Statement (i : Instr) : Prop :=
  match i with
  | .encInit arg => isHost (encode i) 0x00 arg
  | .encSend arg => isHost (encode i) 0x01 arg
  | .txLevel arg => isHost (encode i) 0x02 arg
  | .txFrame arg => isHost (encode i) 0x03 arg
  | .decInit arg => isHost (encode i) 0x04 arg
  | .decPoll arg => isHost (encode i) 0x05 arg
  | .decGetbuf arg => isHost (encode i) 0x06 arg
  | .decWindow arg => isHost (encode i) 0x07 arg
  | .reservedOpc opc arg => isHost (encode i) opc arg
  | .high => encode i = .symbol 0
  | .low1 => encode i = .symbol 1
  | .low2 => encode i = .symbol 2
  | .low3 => encode i = .symbol 3
  | .low4 => encode i = .symbol 4
  | .tick => encode i = .trigger 0
  | .edgeFall => encode i = .trigger 1
  | .edgeRise => encode i = .trigger 2

theorem isHost_hostWord (opc arg : Byte) : isHost (.host (hostWord opc arg)) opc arg := ⟨_, rfl, by simp⟩

theorem encInit (arg : Byte) : Statement (.encInit arg) := isHost_hostWord _ _
theorem encSend (arg : Byte) : Statement (.encSend arg) := isHost_hostWord _ _
theorem txLevel (arg : Byte) : Statement (.txLevel arg) := isHost_hostWord _ _
theorem txFrame (arg : Byte) : Statement (.txFrame arg) := isHost_hostWord _ _
theorem decInit (arg : Byte) : Statement (.decInit arg) := isHost_hostWord _ _
theorem decPoll (arg : Byte) : Statement (.decPoll arg) := isHost_hostWord _ _
theorem decGetbuf (arg : Byte) : Statement (.decGetbuf arg) := isHost_hostWord _ _
theorem decWindow (arg : Byte) : Statement (.decWindow arg) := isHost_hostWord _ _
theorem reservedOpc (opc arg : Byte) : Statement (.reservedOpc opc arg) := isHost_hostWord _ _
theorem high : Statement .high := rfl
theorem low1 : Statement .low1 := rfl
theorem low2 : Statement .low2 := rfl
theorem low3 : Statement .low3 := rfl
theorem low4 : Statement .low4 := rfl
theorem tick : Statement .tick := rfl
theorem edgeFall : Statement .edgeFall := rfl
theorem edgeRise : Statement .edgeRise := rfl

end Sys2Proof.Laws.EncodeFormat
end

