-- ==== Sys2Proof/Laws/Sequencer.lean ====
section
/-! SUPPORT. What the sequencer's moves can do (R24, R104, R130, R234). -/

namespace Sys2Proof.Machine

@[simp] theorem goTo_some (p : TxPc) (s : State) : goTo (some p) s = { s with tx := { s.tx with pc := p } } := rfl
@[simp] theorem goTo_none (s : State) : goTo none s = endTx s := rfl

@[simp] theorem goTo_cfg (p : Option TxPc) (s : State) : (goTo p s).cfg = s.cfg := by cases p <;> rfl
@[simp] theorem goTo_rx (p : Option TxPc) (s : State) : (goTo p s).rx = s.rx := by cases p <;> rfl
@[simp] theorem goTo_inputs (p : Option TxPc) (s : State) : (goTo p s).inputs = s.inputs := by cases p <;> rfl
@[simp] theorem goTo_freeCtr (p : Option TxPc) (s : State) : (goTo p s).freeCtr = s.freeCtr := by cases p <;> rfl
@[simp] theorem goTo_driven (p : Option TxPc) (s : State) : (goTo p s).tx.driven = s.tx.driven := by cases p <;> rfl
@[simp] theorem goTo_line (p : Option TxPc) (s : State) : (goTo p s).tx.line = s.tx.line := by cases p <;> rfl
@[simp] theorem goTo_op (p : Option TxPc) (s : State) : (goTo p s).tx.op = s.tx.op := by cases p <;> rfl
@[simp] theorem goTo_trace (p : Option TxPc) (s : State) : (goTo p s).tx.trace = s.tx.trace := by cases p <;> rfl

/-- A segment that has begun is not begun again. -/
theorem beginSegment_running {g : Segment} {s : State} (h : s.tx.pc.rem ≠ 0) : beginSegment g s = s := by
  simp [beginSegment, h]

/-- A segment that begins is emitted (R104). -/
theorem beginSegment_fresh {g : Segment} {s : State} (h : s.tx.pc.rem = 0) :
    beginSegment g s = { s with tx := { emit g s.tx with pc := { s.tx.pc with rem := g.d } } } := by
  simp [beginSegment, h]

@[simp] theorem beginSegment_cfg (g : Segment) (s : State) : (beginSegment g s).cfg = s.cfg := by
  unfold beginSegment; split <;> rfl
@[simp] theorem beginSegment_rx (g : Segment) (s : State) : (beginSegment g s).rx = s.rx := by
  unfold beginSegment; split <;> rfl
@[simp] theorem beginSegment_op (g : Segment) (s : State) : (beginSegment g s).tx.op = s.tx.op := by
  unfold beginSegment; split <;> rfl

/-- Time either counts down or ends the segment (R24). -/
theorem passTime_cases (n : Nat) (u : TxUnit) (s : State) :
    (n < s.tx.pc.rem ∧ passTime n u s = { s with tx := { s.tx with pc := { s.tx.pc with rem := s.tx.pc.rem - n } } })
      ∨ (s.tx.pc.rem ≤ n ∧ passTime n u s = goTo (nextSegment s.cfg s.tx.op u s.tx.pc) s) := by
  unfold passTime
  split
  · rename_i h
    exact .inl ⟨h, rfl⟩
  · rename_i h
    exact .inr ⟨by omega, rfl⟩

/-- All that a stretch of transmitter time can answer. -/
theorem runTime_cases {n : Nat} {s t : State} (h : runTime n s = .next t) :
    (s.tx.busy = false ∧ t = s)
      ∨ (s.tx.busy = true ∧ ∃ u g, unitAt s.cfg s.tx.op s.tx.pc = some u ∧ segmentOf s.cfg u s.tx.pc.half = some g
          ∧ t = passTime n u (beginSegment g s)) := by
  unfold runTime at h
  split at h
  · rename_i hb
    split at h
    · cases h
    · rename_i u hu
      split at h
      · cases h
      · rename_i g hg
        exact .inr ⟨hb, u, g, hu, hg, by simpa using h.symm⟩
  · rename_i hb
    exact .inl ⟨by simpa using hb, by simpa using h.symm⟩

end Sys2Proof.Machine
end

