-- ==== Sys2Proof/Laws/Step.lean ====
section
/-! SUPPORT. What a step can do, said once, and that no instruction is refused or faults. -/

namespace Sys2Proof.Machine

/-- Every instruction answers a next state, in every state (R91, R200). -/
theorem exec_next (i : Instr) (s : State) : ∃ t, exec i s = .next t := by
  cases i <;> exact ⟨_, rfl⟩

/-- A step answers only in a legal configuration (R8). -/
theorem step_legal {s t : State} (h : step s = .next t) : configLegal s.cfg = true ∧ runInput s = .next t := by
  unfold step runStep at h
  split at h
  · rename_i hc
    exact ⟨hc, h⟩
  · cases h

/-- A step in a legal configuration takes its input (R11). -/
theorem step_eq_runInput {s : State} (h : configLegal s.cfg = true) : step s = runInput s := by
  simp [step, runStep, h]

/-- All that the sequencer's whole unit can answer. -/
theorem runUnit_cases {s t : State} (h : runUnit s = .next t) :
    (s.tx.busy = false ∧ t = s)
      ∨ (s.tx.busy = true ∧ atUnitStart s.tx.pc = true
          ∧ ((∃ d, unitAt s.cfg s.tx.op s.tx.pc = some (.silence d) ∧ t = advanceUnit (emitSilence d s))
            ∨ (∃ c i u, unitAt s.cfg s.tx.op s.tx.pc = some (.symbol c) ∧ decodeSymbol c = some i
                ∧ exec i s = .next u ∧ t = advanceUnit u)))
      ∨ (s.tx.busy = true ∧ atUnitStart s.tx.pc = false ∧ finishSegment s = .next t) := by
  unfold runUnit at h
  split at h
  · rename_i hb
    split at h
    · rename_i ha
      refine .inr (.inl ⟨hb, ha, ?_⟩)
      split at h
      · cases h
      · rename_i d hd
        exact .inl ⟨d, hd, by simpa using h.symm⟩
      · rename_i c hc
        split at h
        · rename_i i hi
          obtain ⟨u, hu⟩ := exec_next i s
          rw [hu] at h
          exact .inr ⟨c, i, u, hc, hi, hu, by simpa [thenAdvance] using h.symm⟩
        · cases h
    · rename_i ha
      exact .inr (.inr ⟨hb, by simpa using ha, h⟩)
  · rename_i hb
    exact .inl ⟨by simpa using hb, by simpa using h.symm⟩

/-- All that a step can do: which input is taken, and by which operation. -/
theorem runInput_cases {s t : State} (h : runInput s = .next t) :
    (s.inputs = [] ∧ runUnit s = .next t)
      ∨ (∃ w rest, s.inputs = .host w :: rest ∧ s.tx.busy = true ∧ runUnit s = .next t)
      ∨ (∃ w rest, s.inputs = .host w :: rest ∧ s.tx.busy = false ∧ exec (decodeHost w) (popInput rest s) = .next t)
      ∨ (∃ c rest i, s.inputs = .trigger c :: rest ∧ decodeTrigger c = some i ∧ exec i (popInput rest s) = .next t)
      ∨ (∃ n rest, s.inputs = .txTime n :: rest ∧ runTime n (popInput rest s) = .next t)
      ∨ (∃ rest, s.inputs = .txSymbol :: rest ∧ runUnit (popInput rest s) = .next t)
      ∨ (∃ rest, s.inputs = .hwReset :: rest ∧ t = hardwareReset (popInput rest s)) := by
  unfold runInput at h
  split at h
  · rename_i hi
    exact .inl ⟨hi, h⟩
  · rename_i w rest hi
    split at h
    · rename_i hb
      exact .inr (.inl ⟨w, rest, hi, hb, h⟩)
    · rename_i hb
      exact .inr (.inr (.inl ⟨w, rest, hi, by simpa using hb, h⟩))
  · rename_i c rest hi
    unfold handleTrigger at h
    split at h
    · rename_i i hd
      exact .inr (.inr (.inr (.inl ⟨c, rest, i, hi, hd, h⟩)))
    · cases h
  · rename_i n rest hi
    exact .inr (.inr (.inr (.inr (.inl ⟨n, rest, hi, h⟩))))
  · rename_i rest hi
    exact .inr (.inr (.inr (.inr (.inr (.inl ⟨rest, hi, h⟩)))))
  · rename_i rest hi
    exact .inr (.inr (.inr (.inr (.inr (.inr ⟨rest, hi, by simpa using h.symm⟩)))))

end Sys2Proof.Machine
end

