-- ==== Sys2Proof/Laws/Safety.lean ====
section
/-! SUPPORT. The small lemmas of the terms that claims are stated in: runs of instructions, and what is still to be sent. -/

namespace Sys2Proof.Machine

@[simp] theorem execAll_nil (s : State) : execAll [] s = .next s := rfl

/-- The first instruction, then the others. -/
theorem execAll_cons {i : Instr} {s t : State} (h : exec i s = .next t) (more : List Instr) :
    execAll (i :: more) s = execAll more t := by
  simp [execAll, h]

/-- Any list of instructions runs through (R91, R200). -/
theorem execAll_next (is : List Instr) (s : State) : ∃ t, execAll is s = .next t := by
  induction is generalizing s with
  | nil => exact ⟨s, rfl⟩
  | cons i more ih =>
    obtain ⟨t, ht⟩ := exec_next i s
    rw [execAll_cons ht]
    exact ih t

/-- Nothing is to come when nothing is sent (R234). -/
theorem trainToCome_idle {c : Config} {t : TxHalf} (h : t.busy = false) : trainToCome c t = [] := by
  simp [trainToCome, h]

/-- In the middle of a transmission: the rest of the unit, and all that follows it. -/
theorem trainToCome_busy {c : Config} {t : TxHalf} {u : TxUnit} (h : t.busy = true) (hu : unitAt c t.op t.pc = some u) :
    trainToCome c t = (unitTrain c u).drop (segmentsBegun t.pc) ++ unitsRest c t.op t.pc := by
  simp [trainToCome, h, hu]

/-- Before the first segment of a unit, none of it has begun. -/
@[simp] theorem segmentsBegun_atUnit (st : Stage) (k : Nat) (p : Part) (j : Nat) : segmentsBegun (atUnit st k p j) = 0 := rfl

end Sys2Proof.Machine
end

