-- ==== Sys2Proof/Tests/Slice0.lean ====
section
/-! SUPPORT. Tests with results taken from spec/95_test_vectors.md, spec/30_encoding.md and the rules named, the smoke test of the
well-formedness checks, and for each obligation with hypotheses a witness that meets them. -/

namespace Sys2Proof.Tests

open Sys2Proof Sys2Proof.Machine

/-! ### Small states -/

/-- CFG-A of 95_test_vectors.md section 2.4. -/
def cfgA : Config :=
  { Config.nominal with
    ft := [[0, 3, 0, 1], [0, 3, 0, 4, 0, 1, 0, 3, 0, 2, 0, 3], [], [2, 0]]
    cmdStart := [0], cmdApp0 := [1, 2], cmdApp1 := [2], cmdStop := [3] }

/-- After hardware reset, with CFG-A. -/
def idle : State := { State.reset with cfg := cfgA }

/-- `s` with these inputs to come. -/
def given (ins : List Input) (s : State) : State := { s with inputs := ins }

/-- After ENC_INIT. -/
def driven : State := { idle with tx := { idle.tx with driven := true } }

/-- A TX operation in progress at a place. -/
def sending (op : TxOp) (pc : TxPc) : State :=
  { driven with tx := { driven.tx with busy := true, op := op, pc := pc } }

/-- After DEC_INIT, with a receive half changed by `f`. -/
def capturing (f : RxHalf → RxHalf) : State := { idle with rx := f (initRx idle.rx) }

/-- The next state of an outcome, `s` itself where there is none. -/
def nextOr (s : State) : Host.Outcome State Fault Refusal → State
  | .next t    => t
  | .fault _   => s
  | .refused _ => s

/-- The outcome is a next state. -/
def goesOn : Host.Outcome State Fault Refusal → Bool
  | .next _    => true
  | .fault _   => false
  | .refused _ => false

/-- The refusal of an outcome. -/
def stopOf : Host.Outcome State Fault Refusal → Option Refusal
  | .next _    => none
  | .fault _   => none
  | .refused r => some r

/-- An outcome that goes on is a next state. -/
theorem goesOn_next {o : Host.Outcome State Fault Refusal} (h : goesOn o = true) : ∃ t, o = .next t := by
  cases o with
  | next t    => exact ⟨t, rfl⟩
  | fault _   => cases h
  | refused _ => cases h

/-- The state after an instruction. -/
def after (i : Instr) (s : State) : State := nextOr s (exec i s)

/-- The response after an instruction: `err`, `ret`, `rdata`. -/
def answer (i : Instr) (s : State) : Option (Bool × Bool × Nat) :=
  (after i s).resp.map fun r => (r.err, r.ret, r.rdata.toNat)

/-- A window from its first timestamp and its intervals. -/
def windowOf (first : Nat) (ds : List Nat) : Vector Stamp 30 :=
  Vector.ofFn fun i => BitVec.ofNat 64 (first + (ds.take i.val).sum)

/-- V-D3 of 95_test_vectors.md: error bits 0101, byte 0xA5; the 29 intervals. -/
def gapsD3 : List Nat :=
  [60, 60, 60, 60, 60, 160, 60, 60, 60, 260, 60, 60, 60, 160, 60] ++
  [260, 60, 60, 60, 260, 60, 160, 60, 60, 60, 260, 60, 60, 60]

def windowD3 : Vector Stamp 30 := windowOf 1000 gapsD3

/-! ### Well-formedness: each check refuses an ill-formed term -/

/-- R90: 0x03 is no reserved `opc`. -/
theorem test_wellFormed_refuses_reservedOpc : (Instr.reservedOpc 0x03 0x00).wellFormed = false := by decide
theorem test_wellFormed_boundary :
    (Instr.reservedOpc 0x07 0).wellFormed = false ∧ (Instr.reservedOpc 0x08 0).wellFormed = true := by decide

/-- R83: the operand bounds, each at its edge. -/
theorem test_legal_refuses :
    (Instr.encInit 1).legal 4 = false ∧ (Instr.encSend 2).legal 4 = false ∧ (Instr.txLevel 5).legal 4 = false
      ∧ (Instr.txFrame 4).legal 4 = false ∧ (Instr.decInit 0xFF).legal 4 = false ∧ (Instr.decPoll 1).legal 4 = false
      ∧ (Instr.decGetbuf 1).legal 4 = false ∧ (Instr.decWindow 1).legal 4 = false
      ∧ (Instr.reservedOpc 8 0).legal 4 = false := by decide
theorem test_legal_accepts :
    (Instr.encSend 1).legal 4 = true ∧ (Instr.txLevel 4).legal 4 = true ∧ (Instr.txFrame 3).legal 4 = true
      ∧ (Instr.decPoll 0).legal 4 = true := by decide

/-- R8, V-T3: CFG-A is legal; each broken constraint is refused. -/
theorem test_config_legal : configLegal cfgA = true ∧ configLegal Config.nominal = true := by decide
theorem test_config_refuses_durations :
    configLegal { cfgA with tCarrier := 30303 } = false ∧ configLegal { cfgA with tCarrier := 60000 } = false
      ∧ configLegal { cfgA with tCarrier := 0 } = false ∧ configLegal { cfgA with tGap := 0 } = false
      ∧ configLegal { cfgA with tSettle := 0 } = false ∧ configLegal { cfgA with tTick := 0 } = false := by decide
theorem test_config_refuses_tables :
    configLegal { cfgA with ft := [[0], [5], [], []] } = false ∧ configLegal { cfgA with cmdStart := [4] } = false
      ∧ configLegal { cfgA with cmdStop := [0, 4] } = false ∧ configLegal { cfgA with cmdApp0 := [4] } = false
      ∧ configLegal { cfgA with cmdApp1 := [4] } = false := by decide
theorem test_config_frame_count :
    configLegal { cfgA with ft := List.replicate 256 [] } = true
      ∧ configLegal { cfgA with ft := List.replicate 257 [] } = false := by decide +kernel
theorem test_step_refuses_config :
    stopOf (step { idle with cfg := { cfgA with tGap := 0 } }) = some .illFormedConfig := by decide

/-! ### Decoding: words written out from R81, R82, R86, R89 -/

theorem test_decode_encInit : decodeHost 0b0000000000000000 = .encInit 0 := by decide
theorem test_decode_encSend : decodeHost 0b0000000100000001 = .encSend 1 := by decide
theorem test_decode_txLevel : decodeHost 0b0000001000000100 = .txLevel 4 := by decide
theorem test_decode_txFrame : decodeHost 0b0000001110000011 = .txFrame 131 := by decide
theorem test_decode_decInit : decodeHost 0b0000010011111111 = .decInit 255 := by decide
theorem test_decode_decPoll : decodeHost 0b0000010100000000 = .decPoll 0 := by decide
theorem test_decode_decGetbuf : decodeHost 0b0000011000000000 = .decGetbuf 0 := by decide
theorem test_decode_decWindow : decodeHost 0b0000011100000000 = .decWindow 0 := by decide
theorem test_decode_reserved :
    decodeHost 0b0000100000000000 = .reservedOpc 8 0 ∧ decodeHost 0xFFFF = .reservedOpc 0xFF 0xFF := by decide
theorem test_decode_symbols :
    decodeSymbol 0b000 = some .high ∧ decodeSymbol 0b001 = some .low1 ∧ decodeSymbol 0b010 = some .low2
      ∧ decodeSymbol 0b011 = some .low3 ∧ decodeSymbol 0b100 = some .low4 := by decide
theorem test_decode_symbols_reserved :
    decode (.symbol 0b101) = .error .reservedSymbol ∧ decode (.symbol 0b110) = .error .reservedSymbol
      ∧ decode (.symbol 0b111) = .error .reservedSymbol := by decide
theorem test_decode_triggers :
    decodeTrigger 0b00 = some .tick ∧ decodeTrigger 0b01 = some .edgeFall ∧ decodeTrigger 0b10 = some .edgeRise
      ∧ decode (.trigger 0b11) = .error .reservedTrigger := by decide
theorem test_encode_words :
    encode (.encSend 1) = .host 0x0101 ∧ encode (.txFrame 3) = .host 0x0303 ∧ encode (.decInit 0) = .host 0x0400
      ∧ encode .low4 = .symbol 0b100 ∧ encode .edgeRise = .trigger 0b10 := by decide
theorem test_decodeTableWord :
    decodeTableWord 16 0x0500 = some (.decPoll 0) ∧ decodeTableWord 8 4 = some .low4
      ∧ decodeTableWord 2 2 = some .edgeRise ∧ decodeTableWord 8 5 = none := by decide
/-- `step` runs a placed word as the first instruction after reset. -/
theorem test_withFetchWord :
    (nextOr State.reset (step (State.reset.withFetchWord 16 0x0400))).rx.irqEdgeEn = true
      ∧ (nextOr State.reset (step (State.reset.withFetchWord 8 2))).tx.trace = [⟨false, 427250⟩]
      ∧ (nextOr State.reset (step (State.reset.withFetchWord 2 0))).rx.cnt16 = 1 := by decide

/-! ### The transmit half -/

/-- V-T1 and V-T2. -/
theorem test_durations_nominal :
    tHigh cfgA = 242400 ∧ tLow1 cfgA = 184850 ∧ tLow2 cfgA = 427250 ∧ tLow3 cfgA = 612100 ∧ tLow4 cfgA = 1039350 := by
  decide
theorem test_durations_small :
    let c := { cfgA with tCarrier := 26, tHalfbit := 400 }
    tHigh c = 208 ∧ tLow1 c = 192 ∧ tLow2 c = 400 ∧ tLow3 c = 592 ∧ tLow4 c = 992 ∧ tHalfCycle c = 13 := by decide

/-- V-L0: 16 segments of 15150 ns, on first. -/
theorem test_high :
    (after .high driven).tx.trace.length = 16 ∧ (after .high driven).tx.trace.head? = some ⟨true, 15150⟩
      ∧ trainDur (after .high driven).tx.trace = 242400 ∧ (after .high driven).tx.line = false := by decide
/-- V-L1 to V-L4. -/
theorem test_low1 : (after .low1 driven).tx.trace = [⟨false, 184850⟩] := by decide
theorem test_low2 : (after .low2 driven).tx.trace = [⟨false, 427250⟩] := by decide
theorem test_low3 : (after .low3 driven).tx.trace = [⟨false, 612100⟩] := by decide
theorem test_low4 : (after .low4 driven).tx.trace = [⟨false, 1039350⟩] := by decide
/-- V-L6: `High` then `Low1` as a waveform. -/
theorem test_waveform_merges :
    (waveform (levelsTrain cfgA [0, 1])).length = 16
      ∧ (waveform (levelsTrain cfgA [0, 1])).getLast? = some ⟨false, 200000⟩ := by decide

/-- R120: a new ENC_INIT drops the old pulse train. -/
theorem test_encInit :
    let s := { driven with tx := { driven.tx with line := true, trace := [⟨true, 5⟩] } }
    (after (.encInit 0) s).tx.line = false ∧ (after (.encInit 0) s).tx.trace = []
      ∧ answer (.encInit 0) s = some (false, false, 0) := by decide
theorem test_encInit_badArg :
    answer (.encInit 1) idle = some (true, false, 0) ∧ (after (.encInit 1) idle).reason = some .badArg
      ∧ (after (.encInit 1) idle).tx.driven = false := by decide
/-- V-E: operand checked before initialisation. -/
theorem test_encSend_refusals :
    (after (.encSend 2) idle).reason = some .badArg ∧ (after (.encSend 0) idle).reason = some .txNotInit := by decide
theorem test_encSend_starts :
    (after (.encSend 1) driven).tx.busy = true ∧ (after (.encSend 1) driven).tx.op = .send .clearMemory
      ∧ (after (.encSend 1) driven).resp = none := by decide
theorem test_txFrame_bounds :
    (after (.txFrame 3) driven).tx.op = .frame 3 ∧ (after (.txFrame 4) driven).reason = some .badArg := by decide
theorem test_txLevel_bounds :
    (after (.txLevel 4) driven).tx.op = .level 4 ∧ (after (.txLevel 5) driven).reason = some .badArg := by decide

/-- V-F1 to V-F4: segments and durations of the four frames. -/
theorem test_frame_segments :
    (frameTrain cfgA 0).length = 86 ∧ (frameTrain cfgA 1).length = 154 ∧ (frameTrain cfgA 2).length = 52
      ∧ (frameTrain cfgA 3).length = 69 := by decide +kernel
theorem test_frame_durations :
    frameDur cfgA 0 = 5403500 ∧ frameDur cfgA 1 = 9063900 ∧ frameDur cfgA 2 = 4121750 ∧ frameDur cfgA 3 = 4791400 := by
  decide
/-- V-S1 and V-S2. -/
theorem test_command_durations :
    commandDur cfgA .requestCount = 55330550 ∧ commandDur cfgA .clearMemory = 46266650 := by decide
theorem test_command_segments :
    (commandTrain cfgA .requestCount).length = 362 ∧ (commandTrain cfgA .clearMemory).length = 208 := by decide +kernel

/-- R24, R105: the second half of the last carrier cycle ends the symbol; here it ends the TX_LEVEL. -/
theorem test_txTime_ends_level :
    let s := given [.txTime 15150] (sending (.level 0) { atUnit .payload 0 .body 0 with cyc := 7, half := .off })
    (nextOr s (step s)).tx.busy = false ∧ (nextOr s (step s)).tx.trace = [⟨false, 15150⟩]
      ∧ (nextOr s (step s)).resp = some ⟨false, false, 0⟩ := by decide
theorem test_txTime_next_half :
    let s := given [.txTime 15150] (sending (.level 0) (atUnit .payload 0 .body 0))
    (nextOr s (step s)).tx.pc = { atUnit .payload 0 .body 0 with half := .off } ∧ (nextOr s (step s)).tx.line = true := by
  decide
/-- R122: from the last preamble symbol into the body, past an empty body into the gap. -/
theorem test_sequencer_body :
    nextUnit cfgA (.frame 0) (atUnit .payload 0 .preamble 5) = some (atUnit .payload 0 .body 0)
      ∧ nextUnit cfgA (.frame 2) (atUnit .payload 0 .preamble 5) = some (atUnit .payload 0 .gap 0)
      ∧ nextUnit cfgA (.frame 2) (atUnit .payload 0 .gap 0) = none := by decide
/-- R124: the stages of ENC_SEND in order, with no settle delay before STOP. -/
theorem test_sequencer_stages :
    nextUnit cfgA (.send .requestCount) (atUnit .start 0 .gap 0) = some enterSettle
      ∧ nextUnit cfgA (.send .requestCount) enterSettle = some (enterFrame .payload 0)
      ∧ nextUnit cfgA (.send .requestCount) (atUnit .payload 1 .gap 0) = some (enterFrame .stop 0)
      ∧ nextUnit cfgA (.send .requestCount) (atUnit .stop 0 .gap 0) = none := by decide

/-! ### The capture unit -/

/-- V-C1, V-C2: the wrap and the stamps around it. -/
theorem test_tick_wraps :
    let s := capturing fun r => { r with cnt16 := 65535 }
    (after .tick s).rx.cnt16 = 0 ∧ (after .tick s).rx.ovfTally = 1 := by decide
/-- V-C8: the wrap before DEC_INIT is not counted. -/
theorem test_tick_uncounted :
    let s := { idle with rx := { idle.rx with cnt16 := 65535, ovfTally := 9 } }
    (after .tick s).rx.cnt16 = 0 ∧ (after .tick s).rx.ovfTally = 9 := by decide
/-- V-C2: `win[1] = 65536`. -/
theorem test_edgeRise :
    let s := capturing fun r => { r with ovfTally := 1, slotIdx := 1, edgeSel := .rising }
    (after .edgeRise s).rx.win[1] = 65536 ∧ (after .edgeRise s).rx.slotIdx = 2
      ∧ (after .edgeRise s).rx.edgeSel = .falling := by decide
/-- V-C10: the first edge over a full window. -/
theorem test_edgeFall_dirty :
    let s := capturing fun r => { r with windowFull := true, cnt16 := 7 }
    (after .edgeFall s).rx.win[0] = 7 ∧ (after .edgeFall s).rx.gDirty = true
      ∧ (after .edgeFall s).rx.windowFull = true ∧ (after .edgeFall s).rx.gOverrun = false := by decide
/-- V-C11: the thirtieth edge over a full window. -/
theorem test_edgeRise_overrun :
    let s := capturing fun r => { r with windowFull := true, slotIdx := 29, edgeSel := .rising, winCount := 255 }
    (after .edgeRise s).rx.gDirty = true ∧ (after .edgeRise s).rx.gOverrun = true
      ∧ (after .edgeRise s).rx.winCount = 0 ∧ (after .edgeRise s).rx.slotIdx = 0 := by decide
/-- V-C4, V-C7: ignored edges. -/
theorem test_edges_ignored :
    after .edgeRise (capturing id) = capturing id ∧ after .edgeFall idle = idle := by decide
/-- R140: `win` and `buf` stay, the flags and counters go. -/
theorem test_decInit :
    let s := capturing fun r =>
      { r with cnt16 := 5, ovfTally := 6, slotIdx := 7, edgeSel := .rising, windowFull := true, winCount := 8, fill := 9,
               gDirty := true, gOverrun := true, gOob := true, win := windowD3 }
    (after (.decInit 0) s).rx = { initRx idle.rx with win := windowD3 } := by decide

/-! ### The decoder and the buffer -/

/-- V-K. -/
theorem test_classify_low :
    [0, 1, 19, 20, 21, 60, 99, 100, 101, 110, 119, 120, 121, 160].map (fun d => classify (BitVec.ofNat 64 d))
      = [0, 0, 0, 0, 1, 1, 1, 0, 0, 0, 0, 0, 3, 3] := by decide
theorem test_classify_high :
    [199, 200, 201, 210, 219, 220, 221, 260, 299, 300, 301, 1000, 65536, 2 ^ 64 - 1].map
      (fun d => classify (BitVec.ofNat 64 d)) = [3, 0, 0, 0, 0, 0, 5, 5, 5, 0, 0, 0, 0, 0] := by decide
/-- V-D3: 0xA5, final position 51. -/
theorem test_decodeWindow_D3 : decodeWindow windowD3 = 0xA5 ∧ (decodeRun windowD3).pos = 51 := by decide
/-- V-D8: a dirty window with a falling timestamp. -/
theorem test_decodeWindow_D8 :
    decodeWindow (windowD3.set 0 14840) = 0x00 ∧ (decodeRun (windowD3.set 0 14840)).pos = 50
      ∧ windowOob (windowD3.set 0 14840) = true := by decide
/-- V-D6: 0xFF with interval 16 at 110, an offset met twice. -/
theorem test_decodeWindow_D6 :
    decodeWindow (windowOf 1000 ([60, 60, 60, 60, 60, 60, 60, 160, 60, 160, 60, 160, 60, 160, 60] ++
      [110, 60, 160, 60, 160, 60, 160, 60, 160, 60, 160, 60, 160, 60])) = 0x00 := by decide
/-- V-D14: all intervals 260, position 145. -/
theorem test_decodeWindow_D14 :
    decodeWindow (windowOf 1000 (List.replicate 29 260)) = 0x10
      ∧ (decodeRun (windowOf 1000 (List.replicate 29 260))).pos = 145 := by decide
/-- DEC_WINDOW on V-D3, and before DEC_INIT. -/
theorem test_decWindow :
    answer (.decWindow 0) (capturing fun r => { r with win := windowD3 }) = some (false, false, 0xA5)
      ∧ (after (.decWindow 0) idle).reason = some .rxNotInit := by decide
/-- V-P1. -/
theorem test_decPoll_empty :
    let s := capturing fun r => { r with fill := 3 }
    (after (.decPoll 0) s).rx = s.rx ∧ answer (.decPoll 0) s = some (false, false, 0) := by decide
/-- V-P3. -/
theorem test_decPoll_twelfth :
    let s := capturing fun r => { r with fill := 11, windowFull := true, win := windowD3 }
    (after (.decPoll 0) s).rx.buf[11] = 0xA5 ∧ (after (.decPoll 0) s).rx.fill = 0
      ∧ (after (.decPoll 0) s).rx.windowFull = false ∧ answer (.decPoll 0) s = some (false, true, 0) := by decide
/-- V-P6. -/
theorem test_decGetbuf :
    answer (.decGetbuf 0) (capturing fun r => { r with buf := Vector.ofFn fun i => BitVec.ofNat 8 (0x41 + i.val) })
      = some (false, false, 0x4C4B4A494847464544434241) := by decide
/-- V-E: reserved `opc` 0x08, whatever the initialisation. -/
theorem test_reservedOpc :
    answer (.reservedOpc 8 0) driven = some (true, false, 0)
      ∧ (after (.reservedOpc 8 0) driven).reason = some .reservedOpc := by decide
/-- R127: a host word while `tx_busy = 1` waits at the head, the sequencer goes on. -/
theorem test_busy_host_waits :
    let s := given [.host 0x0400] (sending (.level 2) (atUnit .payload 0 .body 0))
    (nextOr s (step s)).inputs = [.host 0x0400] ∧ (nextOr s (step s)).tx.busy = false
      ∧ (nextOr s (step s)).rx.irqEdgeEn = false := by decide
/-- R127: a trigger is handled while sending. -/
theorem test_busy_trigger :
    let s := given [.trigger 0] (sending (.level 2) (atUnit .payload 0 .body 0))
    (nextOr s (step s)).rx.cnt16 = 1 ∧ (nextOr s (step s)).tx = s.tx := by decide

/-! ### Witnesses: states and operands that meet the hypotheses of the obligations, clause by clause -/

theorem witness_DecodeOfEncodeIsTheInstruction :
    (Instr.reservedOpc 0x08 0xFF).wellFormed = true ∧ (Instr.txFrame 0xFF).wellFormed = true := by decide

theorem witness_DecodedInstructionEncodesBack :
    decode (.host 0x07FF) = .ok (.decWindow 0xFF) ∧ decode (.symbol 4) = .ok .low4 ∧ decode (.trigger 2) = .ok .edgeRise := by
  decide

/-- The bounds 4 and 5 of the symbol codes, 2 and 3 of the triggers, 0x07FF and 0x0800 of the host words. -/
theorem witness_ExactlyTheReservedCodesAreRejected :
    decode (.symbol 4) = .ok .low4 ∧ decode (.symbol 5) = .error .reservedSymbol
      ∧ decode (.trigger 2) = .ok .edgeRise ∧ decode (.trigger 3) = .error .reservedTrigger
      ∧ isReservedOpc (decodeHost 0x07FF) = false ∧ isReservedOpc (decodeHost 0x0800) = true := by decide

theorem witness_StepRunsTheDecodedInstruction_host :
    let s := given [.host 0x0400] idle
    configLegal s.cfg = true ∧ s.inputs = .host 0x0400 :: [] ∧ s.tx.busy = false
      ∧ decode (.host 0x0400) = .ok (.decInit 0) := by decide
theorem witness_StepRunsTheDecodedInstruction_trigger :
    let s := given [.trigger 1, .txSymbol] (sending (.level 0) (atUnit .payload 0 .body 0))
    configLegal s.cfg = true ∧ s.inputs = .trigger 1 :: [.txSymbol] ∧ decode (.trigger 1) = .ok .edgeFall := by decide
/-- One symbol with a unit after it, one that ends the operation. -/
theorem witness_StepRunsTheDecodedInstruction_symbol :
    let s := given [.txSymbol] (sending (.frame 1) (atUnit .payload 0 .body 3))
    configLegal s.cfg = true ∧ s.inputs = .txSymbol :: [] ∧ s.tx.busy = true
      ∧ s.tx.pc.cyc = 0 ∧ s.tx.pc.half = .on ∧ s.tx.pc.rem = 0
      ∧ unitAt s.cfg s.tx.op s.tx.pc = some (.symbol 4) ∧ decode (.symbol 4) = .ok .low4
      ∧ nextUnit s.cfg s.tx.op s.tx.pc = some (atUnit .payload 0 .body 4)
      ∧ nextUnit s.cfg (.level 0) (atUnit .payload 0 .body 0) = none := by decide

/-- The settle delay has a unit after it; the gap of a TX_FRAME ends the operation. -/
theorem witness_SilentUnitEmitsOneOffSegment :
    let s := given [.txSymbol] (sending (.send .requestCount) enterSettle)
    let t := given [.txSymbol] (sending (.frame 2) (atUnit .payload 0 .gap 0))
    configLegal s.cfg = true ∧ s.inputs = .txSymbol :: [] ∧ s.tx.busy = true
      ∧ s.tx.pc.cyc = 0 ∧ s.tx.pc.half = .on ∧ s.tx.pc.rem = 0
      ∧ unitAt s.cfg s.tx.op s.tx.pc = some (.silence 31950000)
      ∧ t.tx.busy = true ∧ unitAt t.cfg t.tx.op t.tx.pc = some (.silence 2840000)
      ∧ nextUnit t.cfg t.tx.op t.tx.pc = none := by decide

theorem witness_TimeInsideASegmentOnlyCountsDown :
    let s := given [.txTime 9] (sending (.level 1) { atUnit .payload 0 .body 0 with rem := 10 })
    Inv s ∧ s.inputs = .txTime 9 :: [] ∧ s.tx.busy = true ∧ 9 < s.tx.pc.rem := by decide

theorem witness_BusyPortAcceptsNothing :
    let s := given [.host 0x0000] (sending (.level 1) (atUnit .payload 0 .body 0))
    isHostOp (.decPoll 0) = true ∧ s.tx.busy = true ∧ s.inputs = .host 0x0000 :: []
      ∧ goesOn (step s) = true := by decide

theorem witness_IdleMachineStaysAsItIs :
    configLegal idle.cfg = true ∧ idle.inputs = [] ∧ idle.tx.busy = false := by decide

/-- `arg` 0 and the first illegal one; both initialised and not. -/
theorem witness_EncInitDrivesTheLineOff : idle.tx.busy = false ∧ (0 : Byte) = 0 ∧ (1 : Byte) ≠ 0 := by decide

theorem witness_TxLevelStartsItsSymbol :
    driven.tx.busy = false ∧ driven.tx.driven = true ∧ (4 : Byte).toNat ≤ 4 ∧ 4 < (5 : Byte).toNat := by decide

theorem witness_TxFrameStartsBeforeItsPreamble :
    driven.tx.busy = false ∧ driven.tx.driven = true ∧ (3 : Byte).toNat < driven.cfg.ft.length
      ∧ driven.cfg.ft.length ≤ (4 : Byte).toNat := by decide

/-- Both commands, with and without start frames, and the first reserved code. -/
theorem witness_EncSendStartsWithTheStartCommand :
    driven.tx.busy = false ∧ driven.tx.driven = true ∧ driven.cfg.cmdStart ≠ []
      ∧ ({ driven with cfg := { cfgA with cmdStart := [] } } : State).cfg.cmdStart = [] ∧ 1 < (2 : Byte).toNat := by decide

theorem witness_TxOperationsAreRefusedBeforeEncInit :
    (needsTxInit (.encSend 1) = true ∧ (Instr.encSend 1).legal idle.cfg.ft.length = true)
      ∧ (needsTxInit (.txLevel 4) = true ∧ (Instr.txLevel 4).legal idle.cfg.ft.length = true)
      ∧ (needsTxInit (.txFrame 3) = true ∧ (Instr.txFrame 3).legal idle.cfg.ft.length = true)
      ∧ idle.tx.busy = false ∧ idle.tx.driven = false := by decide

theorem witness_HighEmitsEightCarrierCycles : idle.cfg.tCarrier % 2 = 0 := by decide

/-- The smallest legal carrier period, and the nominal one. -/
theorem witness_LowDurationsAreOrdered :
    configLegal cfgA = true ∧ configLegal { cfgA with tCarrier := 2, tHalfbit := 17 } = true := by decide
theorem witness_PulseTrainsLastAsLongAsTheirLevels : configLegal cfgA = true := by decide

/-- All three TX operations; a command with empty lists too. -/
theorem witness_TxOperationEmitsItsWholePulseTrain :
    configLegal driven.cfg = true ∧ driven.tx.busy = false ∧ driven.tx.driven = true ∧ driven.inputs = []
      ∧ txOpOf driven.cfg (.txLevel 4) = some (.level 4) ∧ txOpOf driven.cfg (.txFrame 3) = some (.frame 3)
      ∧ txOpOf driven.cfg (.encSend 0) = some (.send .requestCount)
      ∧ txOpOf driven.cfg (.encSend 1) = some (.send .clearMemory) := by decide

theorem witness_PulseTrainDoesNotDependOnTheSchedule :
    let s := given [.txTime 5000, .trigger 0, .txSymbol] driven
    configLegal s.cfg = true ∧ opLegal s.cfg (.level 0) = true ∧ (∀ x ∈ s.inputs, isPassive x = true)
      ∧ goesOn (Sys2Proof.core.run 1 (started (.level 0) s)) = true := by
  refine ⟨by decide, by decide, by decide, by decide⟩

theorem witness_DecInitResetsCountersAndFlags : idle.tx.busy = false ∧ (0 : Byte) = 0 ∧ (255 : Byte) ≠ 0 := by decide

/-- Counter below its top, at its top with the count enabled and with it not. -/
theorem witness_TickCountsAndWraps :
    let s := capturing fun r => { r with cnt16 := 65535 }
    let t := { idle with rx := { idle.rx with cnt16 := 65535 } }
    (capturing fun r => { r with cnt16 := 65534 }).rx.cnt16 ≠ 65535
      ∧ (s.rx.cnt16 = 65535 ∧ s.rx.irqOvfEn = true) ∧ (t.rx.cnt16 = 65535 ∧ t.rx.irqOvfEn = false) := by decide

/-- TICKs, edges, a poll and a transmission after DEC_INIT; then an edge that is watched for, of either polarity. -/
theorem witness_ClockCountsTicksSinceDecInit :
    let is : List Instr := [.tick, .edgeFall, .txLevel 1, .tick, .tick, .decPoll 0]
    let t := nextOr driven (execAll (.decInit 0 :: is) driven)
    driven.tx.busy = false ∧ .decInit 0 ∉ is ∧ is.count .tick < 2 ^ 64 ∧ t.rx.edgeSel = .rising
      ∧ (after .edgeRise t).rx.edgeSel = .falling := by decide
theorem witness_TicksAdvanceTheTimestampAlone : (capturing id).rx.irqOvfEn = true := by decide

/-- Both polarities, at the first and the last slot. -/
theorem witness_AcceptedEdgeIsStamped :
    ((capturing id).rx.irqEdgeEn = true ∧ (capturing id).rx.edgeSel = .falling)
      ∧ (let s := capturing fun r => { r with slotIdx := 29, edgeSel := .rising }
         s.rx.irqEdgeEn = true ∧ s.rx.edgeSel = .rising) := by decide

theorem witness_UnwatchedEdgeChangesNothing :
    idle.rx.irqEdgeEn = false ∧ (capturing id).rx.edgeSel = .falling
      ∧ (capturing fun r => { r with edgeSel := .rising }).rx.edgeSel = .rising := by decide

theorem witness_ThirtyEdgesFillTheWindow :
    (List.replicate 30 60).length = 30 ∧ (List.replicate 30 60).sum < 2 ^ 64 := by decide

/-- The bands at their edges. -/
theorem witness_ClassifyFollowsTheOpenBands :
    classify 20 = 0 ∧ classify 21 = 1 ∧ classify 99 = 1 ∧ classify 100 = 0 ∧ classify 121 = 3 ∧ classify 199 = 3
      ∧ classify 200 = 0 ∧ classify 221 = 5 ∧ classify 299 = 5 ∧ classify 300 = 0 := by decide

theorem witness_OffsetBitIsTheFixedMap :
    offsetBit 22 = none ∧ offsetBit 23 = some 7 ∧ offsetBit 51 = some 0 ∧ offsetBit 55 = none := by decide

/-- A rising pair, an equal pair, and the two ends of the falling pairs that are no wrap of the clock. -/
theorem witness_IntervalsAreModularDifferences :
    (5 : Stamp).toNat ≤ (7 : Stamp).toNat ∧ (5 : Stamp).toNat ≤ (5 : Stamp).toNat
      ∧ ((0 : Stamp).toNat < (1 : Stamp).toNat ∧ (1 : Stamp).toNat - (0 : Stamp).toNat ≤ 2 ^ 64 - 300)
      ∧ ((0 : Stamp).toNat < (BitVec.ofNat 64 (2 ^ 64 - 300)).toNat
        ∧ (BitVec.ofNat 64 (2 ^ 64 - 300)).toNat - (0 : Stamp).toNat ≤ 2 ^ 64 - 300) := by decide

/-- An offset met, and none met. -/
theorem witness_IntervalWritesTheFlagAtItsOffset :
    offsetBit ((⟨22, true, 0, false⟩ : DecodeRun).pos + classify 60) = some 7
      ∧ offsetBit (decodeStart.pos + classify 60) = none := by decide

theorem witness_SecondHitOverwritesTheBit :
    offsetBit (decodeInterval ⟨22, true, 0, false⟩ 60).pos = some 7 ∧ classify 110 = 0
      ∧ (⟨140, true, 0, false⟩ : DecodeRun).pos.toNat ≤ 140 ∧ classify 260 ≠ 0 := by decide

theorem gapsD3_positions :
    gaps (canonPositions 0b0101 0xA5)
      = [1, 1, 1, 1, 1, 3, 1, 1, 1, 5, 1, 1, 1, 3, 1] ++ [5, 1, 1, 1, 5, 1, 3, 1, 1, 1, 5, 1, 1, 1] := by decide

theorem gapsD3_inBand : List.Forall₂ inBand (gaps (canonPositions 0b0101 0xA5)) gapsD3 := by
  rw [gapsD3_positions]
  simp [gapsD3, inBand]

theorem windowD3_intervals : (intervals windowD3.toList).map BitVec.toNat = gapsD3 := by decide

/-- V-D3 is a canonical window. -/
theorem witness_CanonicalWindowDecodesToItsByte : Canonical 0b0101 0xA5 windowD3 := by
  have h := gapsD3_inBand
  rw [← windowD3_intervals, List.forall₂_map_right_iff] at h
  exact h

/-- Initialised and not, with operand 0 and the first illegal one. -/
theorem witness_DecWindowReadsWithoutConsuming :
    (capturing id).tx.busy = false ∧ (capturing id).rx.irqEdgeEn = true ∧ idle.tx.busy = false
      ∧ idle.rx.irqEdgeEn = false ∧ (1 : Byte) ≠ 0 := by decide

/-- A full window at the first and at the last place of the buffer, and no full window. -/
theorem witness_DecPollStoresTheDecodedByte :
    let s := capturing fun r => { r with windowFull := true }
    let t := capturing fun r => { r with windowFull := true, fill := 11 }
    (s.tx.busy = false ∧ s.rx.irqEdgeEn = true ∧ s.rx.windowFull = true ∧ s.rx.fill = 0)
      ∧ (t.rx.windowFull = true ∧ t.rx.fill = 11) ∧ (capturing id).rx.windowFull = false
      ∧ idle.rx.irqEdgeEn = false ∧ (1 : Byte) ≠ 0 := by decide

theorem witness_DecGetbufPacksTheTwelveBytes :
    (capturing id).tx.busy = false ∧ (capturing id).rx.irqEdgeEn = true ∧ idle.rx.irqEdgeEn = false
      ∧ (1 : Byte) ≠ 0 := by decide

theorem witness_RxOperationsAreRefusedBeforeDecInit :
    idle.tx.busy = false ∧ idle.rx.irqEdgeEn = false
      ∧ (needsRxInit (.decPoll 0) = true ∧ (Instr.decPoll 0).legal idle.cfg.ft.length = true)
      ∧ (needsRxInit (.decGetbuf 1) = true ∧ (Instr.decGetbuf 1).legal idle.cfg.ft.length = false)
      ∧ (needsRxInit (.decWindow 0) = true ∧ (Instr.decWindow 0).legal idle.cfg.ft.length = true) := by decide

/-- An empty buffer, and a poll that decodes nothing. -/
theorem witness_PollsCycleThroughTheBuffer : (capturing id).rx.fill = 0 ∧ (capturing id).rx.windowFull = false := by decide
/-- P3, shortened: the twelfth window completes the cycle. -/
theorem test_twelve_polls :
    (pollWindows (capturing id).rx (List.replicate 11 windowD3)).fill = 11
      ∧ pollRet (fullWindow (pollWindows (capturing id).rx (List.replicate 11 windowD3)) windowD3) = true := by
  decide +kernel

/-- V-D3's intervals, after an idle time of 1000 ticks. -/
theorem witness_PolledCanonicalFrameStoresItsByte :
    (capturing id).rx.irqOvfEn = true ∧ (capturing id).rx.irqEdgeEn = true ∧ (capturing id).rx.slotIdx = 0
      ∧ (capturing id).rx.windowFull = false
      ∧ List.Forall₂ inBand (gaps (canonPositions 0b0101 0xA5)) gapsD3 :=
  ⟨by decide, by decide, by decide, by decide, gapsD3_inBand⟩

theorem witness_ReservedOpcIsRefused : driven.tx.busy = false := by decide

/-- Each reason, and an accepted word of either half. -/
theorem witness_RefusedWordsChangeNothing :
    idle.tx.busy = false ∧ refusalOf idle (.reservedOpc 8 0) = some .reservedOpc
      ∧ refusalOf idle (.encSend 2) = some .badArg ∧ refusalOf idle (.encSend 1) = some .txNotInit
      ∧ refusalOf idle (.decPoll 0) = some .rxNotInit ∧ refusalOf idle (.decInit 0) = none
      ∧ refusalOf driven (.txFrame 3) = none := by decide

theorem witness_UninitialisedBlockAcceptsOnlyInits :
    idle.tx.busy = false ∧ idle.tx.driven = false ∧ idle.rx.irqOvfEn = false ∧ idle.rx.irqEdgeEn = false
      ∧ isHostOp (.encInit 1) = true ∧ Instr.encInit 1 ≠ .encInit 0 ∧ Instr.encInit 1 ≠ .decInit 0
      ∧ isHostOp (.decWindow 0) = true := by decide

theorem witness_HardwareResetReturnsToTheUninitialisedState :
    let s := given [.hwReset] (sending (.level 0) (atUnit .payload 0 .body 0))
    configLegal s.cfg = true ∧ s.inputs = .hwReset :: [] := by decide

/-- The invariant in the middle of a `High`, with a step that answers. -/
theorem witness_EveryStepKeepsTheInvariant :
    let s := given [.txTime 20000] (sending (.frame 1) { atUnit .payload 0 .body 0 with cyc := 7, half := .off })
    Inv s ∧ goesOn (step s) = true := by decide
/-- Both alternatives: a state that goes on, and trigger code 3. -/
theorem witness_EveryStepGoesOn :
    Inv (given [.host 0xFFFF] idle) ∧ Inv (given [.trigger 3] driven)
      ∧ stopOf (step (given [.trigger 3] driven)) = some .reservedTrigger := by decide

theorem witness_NeitherHalfTouchesTheOther :
    goesOn (exec (.encInit 0) idle) = true ∧ isTxInstr (.encInit 0) = true
      ∧ goesOn (exec .tick idle) = true ∧ isRxInstr .tick = true ∧ isHostOp .tick = false
      ∧ goesOn (exec (.reservedOpc 8 0) idle) = true ∧ isReservedOpc (.reservedOpc 8 0) = true := by
  decide

/-- Steps in which the fields do change. -/
theorem witness_EachReceiveFieldHasItsWriters :
    let s := capturing fun r => { r with windowFull := true, cnt16 := 65535, win := windowD3 }
    (after .edgeFall s).rx.win ≠ s.rx.win ∧ (after (.decPoll 0) s).rx.buf ≠ s.rx.buf
      ∧ (after .tick s).rx.cnt16 ≠ s.rx.cnt16 ∧ (after .tick s).rx.ovfTally ≠ s.rx.ovfTally
      ∧ (after (.decPoll 0) s).rx.fill ≠ s.rx.fill ∧ (after .edgeFall s).rx.slotIdx ≠ s.rx.slotIdx
      ∧ (after (.decPoll 0) s).rx.windowFull = false ∧ (after (.decInit 0) idle).rx.irqEdgeEn ≠ idle.rx.irqEdgeEn := by
  decide
theorem witness_EachReceiveFieldHasItsWriters_full :
    let s := capturing fun r => { r with slotIdx := 29, edgeSel := .rising }
    s.rx.windowFull = false ∧ (after .edgeRise s).rx.windowFull = true := by decide

/-- The three alternatives: hardware reset, DEC_INIT on a free port, any other step. -/
theorem witness_GhostFlagsAndEnablesAreSticky :
    let s := capturing fun r => { r with gDirty := true, gOverrun := true, gOob := true }
    goesOn (step (given [.host 0x0400] s)) = true
      ∧ goesOn (step (given [.trigger 0] s)) = true
      ∧ s.rx.gDirty = true ∧ s.rx.gOverrun = true ∧ s.rx.gOob = true ∧ s.rx.irqOvfEn = true
      ∧ s.rx.irqEdgeEn = true := by decide

theorem witness_TransmitterAndReceiverDoNotInterfere :
    let s := given [.txSymbol] (sending (.level 1) (atUnit .payload 0 .body 0))
    let t := given [.txTime 100] (sending (.level 1) (atUnit .payload 0 .body 0))
    isTrigger .edgeFall = true ∧ goesOn (exec .edgeFall s) = true
      ∧ s.inputs = .txSymbol :: [] ∧ goesOn (step s) = true
      ∧ t.inputs = .txTime 100 :: [] ∧ goesOn (step t) = true := by decide
/-- A receive operation on a free and on a blocked port, a transmit instruction, and the step with no input. -/
theorem witness_TransmitterAndReceiverDoNotInterfere_operations :
    let s := sending (.level 1) (atUnit .payload 0 .body 0)
    isRxInstr (.decPoll 0) = true ∧ isHostOp (.decPoll 0) = true ∧ driven.tx.busy = idle.tx.busy
      ∧ goesOn (exec (.decPoll 0) idle) = true ∧ s.tx.busy = true ∧ isTxInstr (.encSend 0) = true
      ∧ goesOn (exec (.encSend 0) driven) = true ∧ s.inputs = [] ∧ goesOn (step s) = true := by decide

theorem witness_AcceptedOperationHasItsWholeTrainToCome :
    configLegal driven.cfg = true ∧ driven.tx.busy = false ∧ driven.tx.driven = true
      ∧ txOpOf driven.cfg (.txLevel 0) = some (.level 0) ∧ txOpOf driven.cfg (.txFrame 2) = some (.frame 2)
      ∧ txOpOf driven.cfg (.encSend 0) = some (.send .requestCount) := by decide

/-- A step inside a transmission, and one that ends it. -/
theorem witness_EveryStepKeepsTheWholeTrain :
    let s := given [.txTime 20000] (sending (.frame 1) { atUnit .payload 0 .body 0 with cyc := 3, half := .off })
    let t := given [.host 0x0000] (sending (.frame 2) (atUnit .payload 0 .gap 0))
    (Inv s ∧ s.tx.busy = true ∧ s.inputs.head? ≠ some .hwReset ∧ (nextOr s (step s)).tx.busy = true)
      ∧ (Inv t ∧ t.tx.busy = true ∧ t.inputs.head? ≠ some .hwReset ∧ (nextOr t (step t)).tx.busy = false)
      ∧ goesOn (step s) = true ∧ goesOn (step t) = true := by decide
/-- V-F3 from its last preamble symbol on: `Low1`, the gap. -/
theorem test_trainToCome :
    trainToCome cfgA (sending (.frame 2) (atUnit .payload 0 .preamble 5)).tx = [⟨false, 184850⟩, ⟨false, 2840000⟩] := by
  decide

end Sys2Proof.Tests
end

