-- ==== Sys2Proof/Tests/Harness.lean ====
section
/-! SUPPORT. The test harness of the spec: the textual form of spec/30_encoding.md R92 and R93 as data, and the reference
channel of spec/44_loopback_channel.md R191 to R194. R190: nothing here is part of IRPHY, and no obligation rests on it. -/

namespace Sys2Proof.Tests

open Sys2Proof Sys2Proof.Machine

/-! ### Statements of the textual form -/

/-- A statement (R92) or pseudo-statement (R93). A synonym of R93 is the constructor of the statement it stands for. -/
inductive Statement where
  | encInit
  | encSend (c : Command)
  | txLevel (code : SymCode)
  | txFrame (f : Byte)
  | decInit
  | decPoll
  | decGetbuf
  | decWindow
  | tick
  | fall
  | rise
  /-- `frame NAME: s0 s1 ... sn`: the next entry of the Frame Table; its index is its name. -/
  | frame (body : List SymCode)
  /-- `ticks n` (R93). -/
  | ticks (n : Nat)
  /-- `burst a b` (R93). -/
  | burst (a b : Nat)
  deriving DecidableEq, Repr

/-- `n` statements `tick`. -/
def tickInputs (n : Nat) : List Input := List.replicate n (.trigger 0b00)

/-- What a statement gives the machine (R92, R93); a definition of a frame gives it nothing. -/
def Statement.inputs : Statement → List Input
  | .encInit      => [.host 0x0000]
  | .encSend .requestCount => [.host 0x0100]
  | .encSend .clearMemory  => [.host 0x0101]
  | .txLevel code => [.host (hostWord 0x02 (code.setWidth 8))]
  | .txFrame f    => [.host (hostWord 0x03 f)]
  | .decInit      => [.host 0x0400]
  | .decPoll      => [.host 0x0500]
  | .decGetbuf    => [.host 0x0600]
  | .decWindow    => [.host 0x0700]
  | .tick         => [.trigger 0b00]
  | .fall         => [.trigger 0b01]
  | .rise         => [.trigger 0b10]
  | .frame _      => []
  | .ticks n      => tickInputs n
  | .burst a b    => [.trigger 0b01] ++ tickInputs a ++ [.trigger 0b10] ++ tickInputs b

/-- The Frame Table a program defines (R92, R26). -/
def frameTable (p : List Statement) : List (List SymCode) :=
  p.filterMap fun
    | .frame body => some body
    | _ => none

/-- A program's inputs, in order. -/
def programInputs (p : List Statement) : List Input := p.flatMap Statement.inputs

/-- R93: `burst 2 1`. -/
theorem test_burst :
    Statement.inputs (.burst 2 1) = [.trigger 1, .trigger 0, .trigger 0, .trigger 2, .trigger 0] := by decide
/-- R92: `tx_level L4`, `tx_frame 7`. -/
theorem test_statement_words :
    programInputs [.txLevel 4, .txFrame 7, .frame [0]] = [.host 0x0204, .host 0x0307]
      ∧ frameTable [.txLevel 4, .frame [0, 1], .frame []] = [[0, 1], []] := by decide

/-! ### The reference channel -/

/-- The symbol has a burst. -/
def isHigh (code : SymCode) : Bool := decide (code.toNat = 0)

/-- `Envelope` (R191): the edge times in ns of a list of symbols, from time `now` on, `carrier` saying whether a burst is
running. A falling edge where a burst begins, a rising edge where it ends. -/
def envelope (c : Config) : Nat → Bool → List SymCode → List Nat
  | now, carrier, [] => if carrier then [now] else []
  | now, carrier, code :: more =>
    (if isHigh code = carrier then [] else [now]) ++ envelope c (now + symbolDur c code) (isHigh code) more

/-- The edge times of `Frame(f)` with this body. -/
def frameEdges (c : Config) (body : List SymCode) : List Nat := envelope c 0 false (preamble ++ body)

/-- `Quantise` (R192): the timestamp of an edge `at_` ns after the start, at phase `phi` after tick `n0`. -/
def quantise (c : Config) (n0 phi : Nat) (at_ : Nat) : Nat := n0 + (phi + at_) / c.tTick

/-- The intervals of a frame as the receiver sees them, at one phase. -/
def seenGaps (c : Config) (n0 phi : Nat) (body : List SymCode) : List Nat :=
  gaps ((frameEdges c body).map (quantise c n0 phi))

/-- `RxCompatible` (R193): 30 edges, and every interval in a band at every phase. -/
def rxCompatible (c : Config) (body : List SymCode) : Bool :=
  decide ((frameEdges c body).length = 30)
    && (gaps (frameEdges c body)).all fun d =>
      decide (classify (BitVec.ofNat 64 (d / c.tTick)) ≠ 0)
        && decide (classify (BitVec.ofNat 64 (d / c.tTick)) = classify (BitVec.ofNat 64 ((d + c.tTick - 1) / c.tTick)))

/-- `flush` of `CanonFrame` (R194). -/
def flushSilence : Nat → Nat → List SymCode
  | 1, 0 => [1]
  | 0, 1 => [2]
  | 1, 1 => [3]
  | 1, 2 => [4]
  | _, _ => []

/-- The loop of `CanonFrame` (R194), with the pending silence. -/
def canonLoop : Nat → Nat → List Bool → List SymCode
  | n1, n2, [] => flushSilence n1 n2
  | n1, n2, b :: more =>
    flushSilence n1 (if b then n2 else n2 + 1) ++ [0] ++ canonLoop 1 (if b then 1 else 0) more

/-- `CanonFrame` (R194). -/
def canonFrame (err : BitVec 4) (byte : Byte) : List SymCode := canonLoop 0 0 (windowBits err byte)

/-- V-X1: L2 H L1 H L4 H L1 H L3 H L4 H L1 H L4 H L3 H L1 H L4 H L1 H L3. -/
theorem test_canonFrame_A5 :
    canonFrame 0b0101 0xA5 = [2, 0, 1, 0, 4, 0, 1, 0, 3, 0, 4, 0, 1] ++ [0, 4, 0, 3, 0, 1, 0, 4, 0, 1, 0, 3] := by decide
theorem test_canonFrame_durations :
    levelsDur cfgA (canonFrame 0b0101 0xA5) = 10254000 ∧ levelsDur cfgA (canonFrame 0 0x41) = 10254000
      ∧ levelsDur cfgA (canonFrame 0b1111 0xFF) = 10254000 ∧ levelsDur cfgA (canonFrame 0 0) = 10254000
      ∧ (canonFrame 0b1111 0xFF).length = 24 := by decide
/-- V-X2: the intervals at phase 0. -/
theorem test_envelope_A5 :
    seenGaps cfgA 0 0 (canonFrame 0b0101 0xA5)
      = [60, 46, 61, 46, 61, 153, 60, 47, 60, 260, 61, 46, 60, 153, 61] ++
        [260, 60, 47, 60, 260, 61, 153, 60, 47, 60, 260, 61, 46, 60] := by decide
/-- V-X3: the timestamps at phase 3999 after 100 ticks begin and end as given, and decode to 0xA5. -/
theorem test_envelope_phase :
    ((frameEdges cfgA (canonFrame 0b0101 0xA5)).map (quantise cfgA 100 3999)).take 3 = [100, 161, 207]
      ∧ decodeWindow (windowOf 100 (seenGaps cfgA 100 3999 (canonFrame 0b0101 0xA5))) = 0xA5 := by decide +kernel
/-- R193, R195: the A5 frame is RX-compatible at 3477 and 4702 ns, not at 3476 and 4703; V-F1's short frame is not. -/
theorem test_rxCompatible :
    rxCompatible { cfgA with tTick := 3477 } (canonFrame 0b0101 0xA5) = true
      ∧ rxCompatible { cfgA with tTick := 4702 } (canonFrame 0b0101 0xA5) = true
      ∧ rxCompatible { cfgA with tTick := 3476 } (canonFrame 0b0101 0xA5) = false
      ∧ rxCompatible { cfgA with tTick := 4703 } (canonFrame 0b0101 0xA5) = false
      ∧ rxCompatible cfgA (bodyOf cfgA 0) = false := by decide +kernel

end Sys2Proof.Tests
end

/-! The proofs of the family 00_scope: what each kind of instruction can do, the frames and the independence of the two
halves, what a step runs and refuses, the places of the sequencer, and the invariant. -/

namespace Sys2Proof.Machine

/-! ### What each kind of instruction answers -/

/-- A symbol emits the segments of its code and touches nothing else (R105 to R109). -/
theorem exec_symbol {c : SymCode} {i : Instr} (h : decodeSymbol c = some i) (s : State) :
    exec i s = .next (emitTrain (symbolTrain s.cfg c) s) := by
  unfold decodeSymbol at h
  split at h <;> cases h <;> rename_i hc <;> rw [symbolTrain, hc] <;> rfl

/-- A host operation's meaning is an effect behind the port (R127). -/
theorem exec_eq_hostOp {i : Instr} (hi : isHostOp i = true) : ∃ f, ∀ s, exec i s = hostOp s f := by
  cases i <;> cases hi <;> exact ⟨_, fun _ => rfl⟩

/-- A busy port makes every host operation wait (R127). -/
theorem exec_hostOp_busy {i : Instr} {s : State} (hi : isHostOp i = true) (hb : s.tx.busy = true) :
    exec i s = .next s := by
  obtain ⟨f, hf⟩ := exec_eq_hostOp hi
  rw [hf, hostOp_busy f hb]

theorem txOpOf_encSend (c : Config) (arg : Byte) : txOpOf c (.encSend arg) = (argCommand arg).map .send := by
  simp only [txOpOf]
  split_ifs with h0 h1
  · simp [argCommand, h0]
  · simp [argCommand, h1]
  · rw [argCommand_eq_none.2 (by omega), Option.map_none]

theorem txOpOf_txLevel (c : Config) (arg : Byte) : txOpOf c (.txLevel arg) = (argLevel arg).map .level := by
  simp only [txOpOf, argLevel]
  split_ifs <;> rfl

theorem txOpOf_txFrame (c : Config) (arg : Byte) : txOpOf c (.txFrame arg) = (argFrame c arg).map .frame := by
  simp only [txOpOf, argFrame]
  split_ifs <;> rfl

/-- On a free port a TX operation is started when its operand is legal, and else refused (R83, R91). -/
theorem exec_txOp_free {i : Instr} {s : State} (hi : needsTxInit i = true) (hb : s.tx.busy = false) :
    exec i s = .next ((txOpOf s.cfg i).elim (refuse .badArg s) (startTx · s)) := by
  cases i with
  | encSend arg =>
    rw [txOpOf_encSend, exec, execEncSend, hostOp_free _ hb]
    cases argCommand arg <;> rfl
  | txLevel arg =>
    rw [txOpOf_txLevel, exec, execTxLevel, hostOp_free _ hb]
    cases argLevel arg <;> rfl
  | txFrame arg =>
    rw [txOpOf_txFrame, exec, execTxFrame, hostOp_free _ hb]
    cases argFrame s.cfg arg <;> rfl
  | _ => cases hi

/-- The operation a host word starts has a legal operand (R83). -/
theorem opLegal_of_txOpOf {c : Config} {i : Instr} {op : TxOp} (h : txOpOf c i = some op) : opLegal c op = true := by
  cases i with
  | encSend arg =>
    rw [txOpOf_encSend, Option.map_eq_some_iff] at h
    obtain ⟨cmd, -, rfl⟩ := h
    rfl
  | txLevel arg =>
    simp only [txOpOf] at h
    split_ifs at h with h4
    cases h
    simp only [opLegal, BitVec.toNat_setWidth, decide_eq_true_eq]
    omega
  | txFrame arg =>
    simp only [txOpOf] at h
    split_ifs at h with hf
    cases h
    exact decide_eq_true hf
  | _ => cases h

/-- All that a receive operation can answer (R176, R207). -/
theorem rxOp_cases {arg : Byte} {s t : State} {f : State → State} (h : rxOp arg s f = .next t) :
    (∃ a why, t = { s with resp := a, reason := why })
      ∨ (s.tx.busy = false ∧ arg = 0 ∧ s.rx.irqEdgeEn = true ∧ t = f s) := by
  cases hb : s.tx.busy
  · rw [rxOp_free arg f hb] at h
    cases h
    split_ifs with ha he
    · exact .inr ⟨rfl, ha, he, rfl⟩
    · exact .inl ⟨_, _, rfl⟩
    · exact .inl ⟨_, _, rfl⟩
  · rw [rxOp, hostOp_busy _ hb] at h
    cases h
    exact .inl ⟨_, _, rfl⟩

/-- The trigger of an edge (R89). -/
def edgeInstr : Polarity → Instr
  | .falling => .edgeFall
  | .rising  => .edgeRise

/-- Everything that executing an instruction can do. -/
inductive Effect (i : Instr) (s : State) : State → Prop where
  /-- The port answers, or makes the host wait: neither half is written (R84, R91, R127). -/
  | answered (a : Option Response) (why : Option RefuseReason) (hi : isHostOp i = true) :
      Effect i s { s with resp := a, reason := why }
  /-- ENC_INIT (R120). -/
  | encInit (hi : i = .encInit 0) (hb : s.tx.busy = false) :
      Effect i s (respond okResponse { s with tx := initTx s.tx })
  /-- A TX operation is accepted (R127). -/
  | begun (op : TxOp) (hop : txOpOf s.cfg i = some op) (hb : s.tx.busy = false) (hd : s.tx.driven = true) :
      Effect i s (beginTx op (startPos s.cfg op) s)
  /-- DEC_INIT (R140). -/
  | decInit (hi : i = .decInit 0) (hb : s.tx.busy = false) :
      Effect i s (respond okResponse { s with rx := initRx s.rx })
  /-- DEC_POLL (R172). -/
  | polled (hi : i = .decPoll 0) (hb : s.tx.busy = false) (he : s.rx.irqEdgeEn = true) :
      Effect i s (respond ⟨false, pollRet s.rx, 0⟩ { s with rx := pollRx s.rx })
  /-- A symbol (R105 to R109). -/
  | emitted (c : SymCode) (hi : decodeSymbol c = some i) : Effect i s (emitTrain (symbolTrain s.cfg c) s)
  /-- TICK (R141). -/
  | ticked (hi : i = .tick) : Effect i s { s with rx := tickRx s.rx }
  /-- An edge (R144 to R146). -/
  | edged (p : Polarity) (hi : i = edgeInstr p) : Effect i s { s with rx := edgeRx p s.rx }

/-- What a TX operation can do (R83, R91, R127, R128). -/
theorem exec_txOp_effect {i : Instr} {s t : State} (hi : needsTxInit i = true) (hh : isHostOp i = true)
    (h : exec i s = .next t) : Effect i s t := by
  cases hb : s.tx.busy
  · rw [exec_txOp_free hi hb] at h
    cases h
    cases hop : txOpOf s.cfg i with
    | none    => exact .answered _ _ hh
    | some op =>
      rw [Option.elim_some, startTx_eq]
      split_ifs with hd
      · exact .begun op hop hb hd
      · exact .answered _ _ hh
  · rw [exec_hostOp_busy hh hb] at h
    cases h
    exact .answered _ _ hh

/-- Whatever an instruction answers is one of its effects. -/
theorem exec_effect {i : Instr} {s t : State} (h : exec i s = .next t) : Effect i s t := by
  cases i with
  | encInit arg =>
    rw [exec, execEncInit] at h
    obtain ⟨-, rfl⟩ | ⟨hb, rfl⟩ := hostOp_cases h
    · exact .answered _ _ rfl
    · split_ifs with ha
      · exact .encInit (by rw [(argNone_iff arg).1 ha]) hb
      · exact .answered _ _ rfl
  | encSend arg => exact exec_txOp_effect rfl rfl h
  | txLevel arg => exact exec_txOp_effect rfl rfl h
  | txFrame arg => exact exec_txOp_effect rfl rfl h
  | decInit arg =>
    rw [exec, execDecInit] at h
    obtain ⟨-, rfl⟩ | ⟨hb, rfl⟩ := hostOp_cases h
    · exact .answered _ _ rfl
    · split_ifs with ha
      · exact .decInit (by rw [(argNone_iff arg).1 ha]) hb
      · exact .answered _ _ rfl
  | decPoll arg =>
    rw [exec, execDecPoll] at h
    obtain ⟨a, why, rfl⟩ | ⟨hb, rfl, he, rfl⟩ := rxOp_cases h
    · exact .answered _ _ rfl
    · exact .polled rfl hb he
  | decGetbuf arg =>
    rw [exec, execDecGetbuf] at h
    obtain ⟨a, why, rfl⟩ | ⟨-, -, -, rfl⟩ := rxOp_cases h <;> exact .answered _ _ rfl
  | decWindow arg =>
    rw [exec, execDecWindow] at h
    obtain ⟨a, why, rfl⟩ | ⟨-, -, -, rfl⟩ := rxOp_cases h <;> exact .answered _ _ rfl
  | reservedOpc opc arg =>
    rw [exec, execReservedOpc] at h
    obtain ⟨-, rfl⟩ | ⟨-, rfl⟩ := hostOp_cases h <;> exact .answered _ _ rfl
  | high => cases h; exact .emitted 0 rfl
  | low1 => cases h; exact .emitted 1 rfl
  | low2 => cases h; exact .emitted 2 rfl
  | low3 => cases h; exact .emitted 3 rfl
  | low4 => cases h; exact .emitted 4 rfl
  | tick => cases h; exact .ticked rfl
  | edgeFall => cases h; exact .edged .falling rfl
  | edgeRise => cases h; exact .edged .rising rfl

/-- A symbol is an instruction of the transmit half and comes through no port (R2, R86). -/
theorem isTxInstr_of_decodeSymbol {c : SymCode} {i : Instr} (h : decodeSymbol c = some i) :
    isTxInstr i = true ∧ isHostOp i = false ∧ isTrigger i = false := by
  unfold decodeSymbol at h
  split at h <;> cases h <;> exact ⟨rfl, rfl, rfl⟩

/-- Only the TX operations, which are host words of the transmit half, start one (R2, R127). -/
theorem isTxInstr_of_txOpOf {c : Config} {i : Instr} {op : TxOp} (h : txOpOf c i = some op) :
    isTxInstr i = true ∧ isHostOp i = true := by
  cases i with
  | encSend | txLevel | txFrame => exact ⟨rfl, rfl⟩
  | _ => cases h

/-! ### What a step runs -/

/-- A step refuses an illegal configuration (R8). -/
theorem step_illFormed {s : State} (h : configLegal s.cfg = false) : step s = .refused .illFormedConfig := by
  simp [step, runStep, h]

theorem runInput_nil {s : State} (h : s.inputs = []) : runInput s = runUnit s := by
  simp [runInput, h]

theorem runInput_host_free {s : State} {w : HostWord} {rest : List Input} (h : s.inputs = .host w :: rest)
    (hb : s.tx.busy = false) : runInput s = exec (decodeHost w) (popInput rest s) := by
  simp [runInput, h, hb]

theorem runInput_trigger {s : State} {c : TrigCode} {rest : List Input} (h : s.inputs = .trigger c :: rest) :
    runInput s = handleTrigger c (popInput rest s) := by
  simp [runInput, h]

theorem runInput_txTime {s : State} {n : Nat} {rest : List Input} (h : s.inputs = .txTime n :: rest) :
    runInput s = runTime n (popInput rest s) := by
  simp [runInput, h]

theorem runInput_txSymbol {s : State} {rest : List Input} (h : s.inputs = .txSymbol :: rest) :
    runInput s = runUnit (popInput rest s) := by
  simp [runInput, h]

/-- The sequencer stands still when nothing is sent (R112). -/
theorem runUnit_idle {s : State} (h : s.tx.busy = false) : runUnit s = .next s := by
  simp [runUnit, h]

/-- The sequencer executes the symbol it stands before, and moves on (R122, R130). -/
theorem runUnit_symbol {s : State} {c : SymCode} {i : Instr} (hb : s.tx.busy = true)
    (ha : atUnitStart s.tx.pc = true) (hu : unitAt s.cfg s.tx.op s.tx.pc = some (.symbol c))
    (hi : decodeSymbol c = some i) :
    runUnit s = .next (advanceUnit (emitTrain (symbolTrain s.cfg c) s)) := by
  simp [runUnit, hb, ha, hu, hi, exec_symbol hi, thenAdvance]

/-! ### The frames of the two halves -/

/-- No instruction writes the parameters and ROMs, the inputs or the free-value counter (R26). -/
theorem exec_environment {i : Instr} {s t : State} (h : exec i s = .next t) :
    t.cfg = s.cfg ∧ t.inputs = s.inputs ∧ t.freeCtr = s.freeCtr := by
  cases exec_effect h <;> exact ⟨rfl, rfl, rfl⟩

/-- A transmit instruction does not write the receive half (R2). -/
theorem exec_rx_of_isTxInstr {i : Instr} {s t : State} (ht : isTxInstr i = true) (h : exec i s = .next t) :
    t.rx = s.rx := by
  cases exec_effect h with
  | answered | encInit | begun | emitted => rfl
  | decInit hi | polled hi | ticked hi => subst hi; cases ht
  | edged p hi => subst hi; cases p <;> cases ht

/-- Only a transmit instruction writes the transmit half (R2). -/
theorem exec_tx_of_not_isTxInstr {i : Instr} {s t : State} (ht : isTxInstr i = false) (h : exec i s = .next t) :
    t.tx = s.tx := by
  cases exec_effect h with
  | answered | decInit | polled | ticked | edged => rfl
  | encInit hi => subst hi; cases ht
  | begun op hop => rw [(isTxInstr_of_txOpOf hop).1] at ht; cases ht
  | emitted c hc => rw [(isTxInstr_of_decodeSymbol hc).1] at ht; cases ht

/-- Only a receive instruction writes the receive half (R2). -/
theorem exec_rx_of_not_isRxInstr {i : Instr} {s t : State} (hr : isRxInstr i = false) (h : exec i s = .next t) :
    t.rx = s.rx := by
  cases exec_effect h with
  | answered | encInit | begun | emitted => rfl
  | decInit hi | polled hi | ticked hi => subst hi; cases hr
  | edged p hi => subst hi; cases p <;> cases hr

/-- Symbols and triggers answer nothing at the host port (R84). -/
theorem exec_resp_of_not_isHostOp {i : Instr} {s t : State} (hh : isHostOp i = false) (h : exec i s = .next t) :
    t.resp = s.resp ∧ t.reason = s.reason := by
  cases exec_effect h with
  | emitted | ticked | edged => exact ⟨rfl, rfl⟩
  | answered a why hi => rw [hi] at hh; cases hh
  | encInit hi | decInit hi | polled hi => subst hi; cases hh
  | begun op hop => rw [(isTxInstr_of_txOpOf hop).2] at hh; cases hh

/-- The transmit half, the receive half and the reserved words share no instruction (R2, R90). -/
theorem not_isTxInstr_of_isRxInstr {i : Instr} (h : isRxInstr i = true) : isTxInstr i = false := by
  cases i <;> cases h <;> rfl

theorem not_half_of_isReservedOpc {i : Instr} (h : isReservedOpc i = true) :
    isTxInstr i = false ∧ isRxInstr i = false := by
  cases i with
  | reservedOpc => exact ⟨rfl, rfl⟩
  | _ => cases h

/-- Settles O52: each clause is a frame of the effects of an instruction. -/
theorem neitherHalfTouchesTheOther : Obligations.NeitherHalfTouchesTheOther := by
  intro i s t h
  refine ⟨fun ht => exec_rx_of_isTxInstr ht h, fun hr => exec_tx_of_not_isTxInstr (not_isTxInstr_of_isRxInstr hr) h,
    fun hv => ?_, fun hh => exec_resp_of_not_isHostOp hh h, exec_environment h⟩
  obtain ⟨ht, hr⟩ := not_half_of_isReservedOpc hv
  exact ⟨exec_tx_of_not_isTxInstr ht h, exec_rx_of_not_isRxInstr hr h⟩

/-! ### The two halves do not interfere -/

/-- The state with another transmit half. -/
def withTx (x : TxHalf) (s : State) : State := { s with tx := x }

/-- The state with another receive half. -/
def withRx (x : RxHalf) (s : State) : State := { s with rx := x }

/-- The outcome with its next state changed. -/
def mapNext (f : State → State) : Host.Outcome State Fault Refusal → Host.Outcome State Fault Refusal
  | .next s    => .next (f s)
  | .fault r   => .fault r
  | .refused r => .refused r

@[simp] theorem mapNext_refused (f : State → State) (r : Refusal) : mapNext f (.refused r) = .refused r := rfl

@[simp] theorem withRx_cfg (x : RxHalf) (s : State) : (withRx x s).cfg = s.cfg := rfl
@[simp] theorem withRx_tx (x : RxHalf) (s : State) : (withRx x s).tx = s.tx := rfl

/-- A trigger does the same whatever the transmit half holds (R127, R227). -/
theorem exec_trigger_withTx {i : Instr} (hi : isTrigger i = true) (x : TxHalf) (s : State) :
    exec i (withTx x s) = mapNext (withTx x) (exec i s) := by
  cases i <;> cases hi <;> rfl

/-- The port looks at `tx_busy` alone (R23, R127). -/
theorem hostOp_withTx {x : TxHalf} {s : State} {f : State → State} (hx : x.busy = s.tx.busy)
    (hf : f (withTx x s) = withTx x (f s)) : hostOp (withTx x s) f = mapNext (withTx x) (hostOp s f) := by
  have hb : (withTx x s).tx.busy = s.tx.busy := hx
  unfold hostOp
  rw [hb, hf, mapNext, apply_ite (withTx x)]

/-- A receive operation's checks read the receive half alone (R176, R207). -/
theorem rxOp_withTx {x : TxHalf} {s : State} {f : State → State} (arg : Byte) (hx : x.busy = s.tx.busy)
    (hf : f (withTx x s) = withTx x (f s)) : rxOp arg (withTx x s) f = mapNext (withTx x) (rxOp arg s f) := by
  apply hostOp_withTx hx
  have he : (withTx x s).rx.irqEdgeEn = s.rx.irqEdgeEn := rfl
  simp only [he, hf]
  split_ifs <;> rfl

/-- A receive instruction does the same whatever the transmit half holds but for `tx_busy` (R2, R127). -/
theorem exec_rx_withTx {i : Instr} {x : TxHalf} {s : State} (hi : isRxInstr i = true) (hx : x.busy = s.tx.busy) :
    exec i (withTx x s) = mapNext (withTx x) (exec i s) := by
  cases i with
  | decInit arg =>
    simp only [exec, execDecInit]
    apply hostOp_withTx hx
    split_ifs <;> rfl
  | decPoll arg =>
    simp only [exec, execDecPoll]
    exact rxOp_withTx arg hx rfl
  | decGetbuf arg =>
    simp only [exec, execDecGetbuf]
    exact rxOp_withTx arg hx rfl
  | decWindow arg =>
    simp only [exec, execDecWindow]
    exact rxOp_withTx arg hx rfl
  | tick => rfl
  | edgeFall => rfl
  | edgeRise => rfl
  | _ => cases hi

/-- The port does not look at the receive half (R2). -/
theorem hostOp_withRx {x : RxHalf} {s : State} {f : State → State} (hf : f (withRx x s) = withRx x (f s)) :
    hostOp (withRx x s) f = mapNext (withRx x) (hostOp s f) := by
  unfold hostOp
  rw [withRx_tx, hf, mapNext, apply_ite (withRx x)]

@[simp] theorem startTx_withRx (op : TxOp) (x : RxHalf) (s : State) :
    startTx op (withRx x s) = withRx x (startTx op s) := by
  rw [startTx_eq, startTx_eq, withRx_tx, apply_ite (withRx x)]
  rfl

/-- A transmit instruction does the same whatever the receive half holds (R2). -/
theorem exec_withRx {i : Instr} (hi : isTxInstr i = true) (x : RxHalf) (s : State) :
    exec i (withRx x s) = mapNext (withRx x) (exec i s) := by
  cases i with
  | encInit arg =>
    simp only [exec, execEncInit]
    apply hostOp_withRx
    split_ifs <;> rfl
  | encSend arg =>
    simp only [exec, execEncSend]
    apply hostOp_withRx
    cases argCommand arg with
    | none => rfl
    | some cmd => exact startTx_withRx _ x s
  | txLevel arg =>
    simp only [exec, execTxLevel]
    apply hostOp_withRx
    cases argLevel arg with
    | none => rfl
    | some code => exact startTx_withRx _ x s
  | txFrame arg =>
    simp only [exec, execTxFrame]
    apply hostOp_withRx
    rw [withRx_cfg]
    cases argFrame s.cfg arg with
    | none => rfl
    | some f => exact startTx_withRx _ x s
  | high => rfl
  | low1 => rfl
  | low2 => rfl
  | low3 => rfl
  | low4 => rfl
  | _ => cases hi

/-! #### The sequencer -/

theorem goTo_withRx (p : Option TxPc) (x : RxHalf) (s : State) : goTo p (withRx x s) = withRx x (goTo p s) := by
  cases p <;> rfl

theorem beginSegment_withRx (g : Segment) (x : RxHalf) (s : State) :
    beginSegment g (withRx x s) = withRx x (beginSegment g s) := by
  unfold beginSegment
  rw [withRx_tx, apply_ite (withRx x)]
  rfl

theorem passTime_withRx (n : Nat) (u : TxUnit) (x : RxHalf) (s : State) :
    passTime n u (withRx x s) = withRx x (passTime n u s) := by
  unfold passTime
  rw [withRx_tx, withRx_cfg, goTo_withRx, apply_ite (withRx x)]
  rfl

theorem runTime_withRx (n : Nat) (x : RxHalf) (s : State) :
    runTime n (withRx x s) = mapNext (withRx x) (runTime n s) := by
  simp only [runTime, withRx_tx, withRx_cfg, beginSegment_withRx, passTime_withRx]
  repeat' split
  all_goals rfl

theorem finishSegment_withRx (x : RxHalf) (s : State) :
    finishSegment (withRx x s) = mapNext (withRx x) (finishSegment s) := by
  simp only [finishSegment, withRx_tx, withRx_cfg, beginSegment_withRx, passTime_withRx]
  repeat' split
  all_goals rfl

theorem advanceUnit_withRx (x : RxHalf) (s : State) : advanceUnit (withRx x s) = withRx x (advanceUnit s) :=
  goTo_withRx _ x s

theorem thenAdvance_mapNext_withRx (x : RxHalf) (o : Host.Outcome State Fault Refusal) :
    thenAdvance (mapNext (withRx x) o) = mapNext (withRx x) (thenAdvance o) := by
  cases o with
  | next s => exact congrArg _ (advanceUnit_withRx x s)
  | fault r => rfl
  | refused r => rfl

theorem emitSilence_withRx (d : Nat) (x : RxHalf) (s : State) :
    emitSilence d (withRx x s) = withRx x (emitSilence d s) := rfl

theorem runUnit_withRx (x : RxHalf) (s : State) : runUnit (withRx x s) = mapNext (withRx x) (runUnit s) := by
  simp only [runUnit, withRx_tx, withRx_cfg, finishSegment_withRx, emitSilence_withRx, advanceUnit_withRx]
  split_ifs
  · cases unitAt s.cfg s.tx.op s.tx.pc with
    | none => rfl
    | some u => cases u with
      | silence d => rfl
      | symbol c => cases hi : decodeSymbol c with
        | none => simp only [hi, mapNext_refused]
        | some i =>
          simp only [hi]
          rw [exec_withRx (isTxInstr_of_decodeSymbol hi).1, thenAdvance_mapNext_withRx]
  · rfl
  · rfl

/-- A step of the sequencer does not look at the receive half (R2, R127). -/
theorem step_withRx {s : State} (x : RxHalf)
    (hs : s.inputs = [] ∨ ∃ rest, s.inputs = .txSymbol :: rest ∨ ∃ n, s.inputs = .txTime n :: rest) :
    step (withRx x s) = mapNext (withRx x) (step s) := by
  cases hc : configLegal s.cfg
  · rw [step_illFormed hc, step_illFormed (s := withRx x s) hc, mapNext_refused]
  · rw [step_eq_runInput hc, step_eq_runInput (s := withRx x s) hc]
    obtain hs | ⟨rest, hs | ⟨n, hs⟩⟩ := hs
    · rw [runInput_nil hs, runInput_nil (s := withRx x s) hs, runUnit_withRx]
    · rw [runInput_txSymbol hs, runInput_txSymbol (s := withRx x s) hs]
      exact runUnit_withRx x (popInput rest s)
    · rw [runInput_txTime hs, runInput_txTime (s := withRx x s) hs]
      exact runTime_withRx n x (popInput rest s)

/-- Settles O55: exchanging the half that an instruction or a sequencer step does not read commutes with it. -/
theorem transmitterAndReceiverDoNotInterfere : Obligations.TransmitterAndReceiverDoNotInterfere := by
  refine ⟨fun i s t x hi h => ?_, fun i s t x hi hx h => ?_, fun i s _ hh hb => exec_hostOp_busy hh hb,
    fun i s t x hi h => ?_, fun s t x hs h => ?_⟩
  · exact (exec_trigger_withTx hi x s).trans (congrArg _ h)
  · exact (exec_rx_withTx hi hx).trans (congrArg _ h)
  · exact (exec_withRx hi x s).trans (congrArg _ h)
  · exact (step_withRx x hs).trans (congrArg _ h)

/-! ### The step around `exec` -/

theorem decode_symbol_eq_ok {c : SymCode} {i : Instr} : decode (.symbol c) = .ok i ↔ decodeSymbol c = some i := by
  cases h : decodeSymbol c <;> simp [decode, h]

theorem decode_trigger_eq_ok {c : TrigCode} {i : Instr} : decode (.trigger c) = .ok i ↔ decodeTrigger c = some i := by
  cases h : decodeTrigger c <;> simp [decode, h]

theorem handleTrigger_some {c : TrigCode} {i : Instr} (h : decodeTrigger c = some i) (s : State) :
    handleTrigger c s = exec i s := by
  simp [handleTrigger, h]

/-- A symbol executed in passing does not move `tx_pc`: where the sequencer goes is read from the state before (R130). -/
theorem advanceUnit_emitTrain (gs : List Segment) (s : State) :
    advanceUnit (emitTrain gs s) = goTo (nextUnit s.cfg s.tx.op s.tx.pc) (emitTrain gs s) := by
  simp [advanceUnit]

/-- Settles O5: the head of the inputs selects the branch of the step, and a symbol is run by its effect. -/
theorem stepRunsTheDecodedInstruction : Obligations.StepRunsTheDecodedInstruction := by
  intro s hc
  rw [step_eq_runInput hc]
  refine ⟨fun w rest i hin hb hd => ?_, fun c rest i hin hd => ?_, fun c rest i hin hb h0 hon hrem hu hd => ?_⟩
  · cases hd
    exact runInput_host_free hin hb
  · rw [runInput_trigger hin, handleTrigger_some (decode_trigger_eq_ok.1 hd)]
    rfl
  · rw [decode_symbol_eq_ok] at hd
    have ha : atUnitStart s.tx.pc = true := by simp [atUnitStart, h0, hon, hrem]
    refine ⟨_, exec_symbol hd (popInput rest s), ?_⟩
    rw [runInput_txSymbol hin, runUnit_symbol (s := popInput rest s) hb ha hu hd, advanceUnit_emitTrain]
    simp only [popInput_cfg, popInput_tx]
    cases nextUnit s.cfg s.tx.op s.tx.pc <;> rfl

/-- Settles O9: with no input the step is the sequencer's, which stands still on a free port. -/
theorem idleMachineStaysAsItIs : Obligations.IdleMachineStaysAsItIs := by
  intro s hc hin hb
  rw [step_eq_runInput hc, runInput_nil hin, runUnit_idle hb]

/-! ### The configuration -/

theorem symbolsLegal_iff (c : Config) : symbolsLegal c = true ↔ ∀ body ∈ c.ft, ∀ code ∈ body, code.toNat < 5 := by
  simp [symbolsLegal, Nat.lt_succ_iff]

theorem indicesLegal_iff (c : Config) :
    indicesLegal c = true ↔
      ∀ f, f ∈ c.cmdStart ∨ f ∈ c.cmdStop ∨ f ∈ c.cmdApp0 ∨ f ∈ c.cmdApp1 → f < nFrames c := by
  simp [indicesLegal, or_imp, forall_and]

theorem durationsLegal_iff (c : Config) :
    durationsLegal c = true ↔ 0 < c.tCarrier ∧ c.tCarrier % 2 = 0 ∧ 8 * c.tCarrier < c.tHalfbit ∧ 0 < c.tGap
      ∧ 0 < c.tSettle ∧ 0 < c.tTick := by
  simp [durationsLegal, and_assoc]

theorem configLegal_iff (c : Config) :
    configLegal c = true ↔
      durationsLegal c = true ∧ symbolsLegal c = true ∧ indicesLegal c = true ∧ nFrames c ≤ 256 := by
  simp [configLegal, and_assoc]

/-- The only refusals of a stretch of transmitter time. -/
theorem runTime_refused {n : Nat} {s : State} {r : Refusal} (h : runTime n s = .refused r) :
    r = .strayPosition ∨ r = .reservedSymbol := by
  unfold runTime at h
  repeat' split at h
  all_goals cases h
  · exact .inl rfl
  · exact .inr rfl

/-- The only refusals of the end of a segment. -/
theorem finishSegment_refused {s : State} {r : Refusal} (h : finishSegment s = .refused r) :
    r = .strayPosition ∨ r = .reservedSymbol := by
  unfold finishSegment at h
  repeat' split at h
  all_goals cases h
  · exact .inl rfl
  · exact .inr rfl

/-- The only refusals of the sequencer's whole unit. -/
theorem runUnit_refused {s : State} {r : Refusal} (h : runUnit s = .refused r) :
    r = .strayPosition ∨ r = .reservedSymbol := by
  unfold runUnit at h
  split at h
  · split at h
    · split at h
      · cases h; exact .inl rfl
      · cases h
      · split at h
        · rename_i i hi
          rw [exec_symbol hi] at h
          cases h
        · cases h; exact .inr rfl
    · exact finishSegment_refused h
  · cases h

/-- A trigger is refused only when its code is reserved (R90). -/
theorem handleTrigger_refused {c : TrigCode} {s : State} {r : Refusal} (h : handleTrigger c s = .refused r) :
    r = .reservedTrigger := by
  unfold handleTrigger at h
  split at h
  · rename_i i _
    obtain ⟨t, ht⟩ := exec_next i s
    rw [ht] at h
    cases h
  · cases h; rfl

/-- Taking an input never finds fault with the configuration. -/
theorem runInput_ne_illFormedConfig (s : State) : runInput s ≠ .refused .illFormedConfig := by
  intro h
  unfold runInput at h
  split at h
  · simpa using runUnit_refused h
  · split at h
    · simpa using runUnit_refused h
    · rename_i w rest _ _
      obtain ⟨t, ht⟩ := exec_next (decodeHost w) (popInput rest s)
      rw [ht] at h
      cases h
  · simpa using handleTrigger_refused h
  · simpa using runTime_refused h
  · simpa using runUnit_refused h
  · cases h

/-- Settles O10: `configLegal` is taken apart into its parts, and no other stop of a step carries this name. -/
theorem illegalConfigurationIsRefused : Obligations.IllegalConfigurationIsRefused := by
  refine ⟨fun c => ?_, fun s => ⟨fun h => ?_, step_illFormed⟩⟩
  · rw [configLegal_iff, durationsLegal_iff, symbolsLegal_iff, indicesLegal_iff]
    simp only [and_assoc, nFrames]
  · by_contra hc
    rw [Bool.not_eq_false] at hc
    rw [step_eq_runInput hc] at h
    exact runInput_ne_illFormedConfig s h

/-! ### The reset state -/

/-- Settles O49: nothing is initialised at reset, so only the configuration and the agreement of the enables matter. -/
theorem resetMeetsTheInvariant : Obligations.ResetMeetsTheInvariant :=
  ⟨by decide, ⟨nofun, nofun⟩, rfl, nofun, nofun⟩

/-! ### The places of the sequencer -/

/-- Every frame a stage walks is in the Frame Table (R8, R83). -/
theorem stageFrames_lt {c : Config} {op : TxOp} {st : Stage} {f : Nat} (hc : configLegal c = true)
    (ho : opLegal c op = true) (hf : f ∈ stageFrames c op st) : f < nFrames c := by
  obtain ⟨-, -, hi, -⟩ := (configLegal_iff c).1 hc
  have hlt := (indicesLegal_iff c).1 hi
  cases op with
  | level code => simp [stageFrames] at hf
  | frame g =>
    cases st <;> simp only [stageFrames, List.mem_singleton, List.not_mem_nil] at hf
    subst hf
    exact of_decide_eq_true ho
  | send cmd =>
    cases st with
    | start => exact hlt f (.inl hf)
    | settle => simp [stageFrames] at hf
    | payload =>
      cases cmd with
      | requestCount => exact hlt f (.inr (.inr (.inl hf)))
      | clearMemory => exact hlt f (.inr (.inr (.inr hf)))
    | stop => exact hlt f (.inr (.inl hf))

/-- A stage with a frame belongs to TX_FRAME or ENC_SEND and is not the settle delay (R122, R124). -/
theorem stageFrames_nonempty {c : Config} {op : TxOp} {st : Stage} {k : Nat}
    (hk : k < (stageFrames c op st).length) : (∀ code, op ≠ .level code) ∧ st ≠ .settle := by
  constructor
  · rintro code rfl
    cases hk
  · rintro rfl
    cases op <;> cases hk

/-- The body in use is an entry of the Frame Table. -/
theorem frameBody?_mem {c : Config} {op : TxOp} {pc : TxPc} {body : List SymCode}
    (hb : frameBody? c op pc = some body) : body ∈ c.ft := by
  unfold frameBody? at hb
  split at hb
  · exact List.mem_of_getElem? hb
  · cases hb

/-- Inside a stage's frame list there is a body. -/
theorem frameBody?_of_lt {c : Config} {op : TxOp} {pc : TxPc} (hc : configLegal c = true) (ho : opLegal c op = true)
    (hk : pc.k < (stageFrames c op pc.stage).length) : ∃ body, frameBody? c op pc = some body := by
  have hf : (stageFrames c op pc.stage)[pc.k] < c.ft.length := stageFrames_lt hc ho (List.getElem_mem hk)
  unfold frameBody?
  rw [List.getElem?_eq_getElem hk]
  exact ⟨_, List.getElem?_eq_getElem hf⟩

/-- The symbol or gap at a place of a frame with this body (R122). -/
def partUnit (c : Config) (body : List SymCode) (part : Part) (j : Nat) : Option TxUnit :=
  match part with
  | .preamble => preamble[j]?.map .symbol
  | .body     => body[j]?.map .symbol
  | .gap      => some (.silence c.tGap)

/-- The place after a unit of a frame with this body (R122, R130). -/
def nextInFrame (c : Config) (op : TxOp) (body : List SymCode) (pc : TxPc) : Option TxPc :=
  match pc.part with
  | .preamble =>
    if pc.j + 1 < preamble.length then some (atUnit pc.stage pc.k .preamble (pc.j + 1))
    else if body.length = 0 then some (atUnit pc.stage pc.k .gap 0)
    else some (atUnit pc.stage pc.k .body 0)
  | .body =>
    if pc.j + 1 < body.length then some (atUnit pc.stage pc.k .body (pc.j + 1))
    else some (atUnit pc.stage pc.k .gap 0)
  | .gap => afterFrame c op pc

section Walk

variable {c : Config} {op : TxOp} {pc : TxPc} (hop : ∀ code, op ≠ .level code)

include hop

theorem unitAt_settle (hs : pc.stage = .settle) : unitAt c op pc = some (.silence c.tSettle) := by
  cases op with
  | level code => exact absurd rfl (hop code)
  | frame f | send f => simp only [unitAt, hs]

theorem unitAt_inFrame (hs : pc.stage ≠ .settle) :
    unitAt c op pc = (frameBody? c op pc).bind fun body => partUnit c body pc.part pc.j := by
  cases op with
  | level code => exact absurd rfl (hop code)
  | frame f | send f =>
    obtain ⟨stage, k, part, j, cyc, half, rem⟩ := pc
    cases stage with
    | settle => exact absurd rfl hs
    | start | payload | stop => unfold unitAt; cases frameBody? c _ _ <;> rfl

theorem nextUnit_settle (hs : pc.stage = .settle) : nextUnit c op pc = enterPayload c op := by
  cases op with
  | level code => exact absurd rfl (hop code)
  | frame f | send f => simp only [nextUnit, hs]

theorem nextUnit_inFrame (hs : pc.stage ≠ .settle) :
    nextUnit c op pc = nextInFrame c op ((frameBody? c op pc).getD []) pc := by
  cases op with
  | level code => exact absurd rfl (hop code)
  | frame f | send f =>
    obtain ⟨stage, k, part, j, cyc, half, rem⟩ := pc
    cases stage with
    | settle => exact absurd rfl hs
    | start | payload | stop => rfl

end Walk

theorem preamble_legal : ∀ code ∈ preamble, code.toNat ≤ 4 := by decide

/-- The symbols of a frame are its preamble's and its body's (R122). -/
theorem mem_of_partUnit_symbol {c : Config} {body : List SymCode} {part : Part} {j : Nat} {code : SymCode}
    (h : partUnit c body part j = some (.symbol code)) : code ∈ preamble ∨ code ∈ body := by
  cases part with
  | preamble =>
    obtain ⟨x, hx, hxc⟩ := Option.map_eq_some_iff.1 h
    cases hxc
    exact .inl (List.mem_of_getElem? hx)
  | body =>
    obtain ⟨x, hx, hxc⟩ := Option.map_eq_some_iff.1 h
    cases hxc
    exact .inr (List.mem_of_getElem? hx)
  | gap => cases h

/-- The sequencer never stands before a reserved symbol (R90). -/
theorem unitAt_symbol_legal {c : Config} {op : TxOp} {pc : TxPc} {code : SymCode} (hc : configLegal c = true)
    (ho : opLegal c op = true) (hu : unitAt c op pc = some (.symbol code)) : code.toNat ≤ 4 := by
  by_cases hl : ∃ x, op = .level x
  · obtain ⟨x, rfl⟩ := hl
    cases hu
    exact of_decide_eq_true ho
  · have hop : ∀ x, op ≠ .level x := fun x hx => hl ⟨x, hx⟩
    by_cases hs : pc.stage = .settle
    · rw [unitAt_settle hop hs] at hu
      cases hu
    · rw [unitAt_inFrame hop hs, Option.bind_eq_some_iff] at hu
      obtain ⟨body, hb, hu⟩ := hu
      obtain hm | hm := mem_of_partUnit_symbol hu
      · exact preamble_legal code hm
      · obtain ⟨-, hsym, -⟩ := (configLegal_iff c).1 hc
        exact Nat.le_of_lt_succ ((symbolsLegal_iff c).1 hsym body (frameBody?_mem hb) code hm)

/-- A place at which a unit of the operation is about to begin. -/
def UnitPlace (c : Config) (op : TxOp) (pc : TxPc) : Prop :=
  atUnitStart pc = true ∧ ∃ u, unitAt c op pc = some u

section Places

variable {c : Config} {op : TxOp}

theorem unitPlace_enterSettle (hop : ∀ code, op ≠ .level code) : UnitPlace c op enterSettle :=
  ⟨rfl, _, unitAt_settle hop rfl⟩

variable (hc : configLegal c = true) (ho : opLegal c op = true)

/-- A place of a frame whose unit exists (R122). -/
theorem unitPlace_atUnit {st : Stage} {k : Nat} {body : List SymCode} {part : Part} {j : Nat} {u : TxUnit}
    (hop : ∀ code, op ≠ .level code) (hs : st ≠ .settle) (hb : frameBody? c op (atUnit st k part j) = some body)
    (hu : partUnit c body part j = some u) : UnitPlace c op (atUnit st k part j) := by
  refine ⟨rfl, u, ?_⟩
  rw [unitAt_inFrame hop hs, hb]
  exact hu

include hc ho

theorem unitPlace_enterFrame {st : Stage} {k : Nat} (hk : k < (stageFrames c op st).length) :
    UnitPlace c op (enterFrame st k) := by
  obtain ⟨hop, hs⟩ := stageFrames_nonempty hk
  obtain ⟨body, hb⟩ := frameBody?_of_lt (pc := enterFrame st k) hc ho hk
  exact unitPlace_atUnit hop hs hb rfl

theorem unitPlace_enterStop {p : TxPc} (h : enterStop c op = some p) : UnitPlace c op p := by
  unfold enterStop at h
  split_ifs at h with he
  cases h
  exact unitPlace_enterFrame hc ho (List.length_pos_iff.2 (by simpa using he))

theorem unitPlace_enterPayload {p : TxPc} (h : enterPayload c op = some p) : UnitPlace c op p := by
  unfold enterPayload at h
  split_ifs at h with he
  · exact unitPlace_enterStop hc ho h
  · cases h
    exact unitPlace_enterFrame hc ho (List.length_pos_iff.2 (by simpa using he))

theorem unitPlace_startPos : UnitPlace c op (startPos c op) := by
  cases op with
  | level code => exact ⟨rfl, _, rfl⟩
  | frame f => exact unitPlace_enterFrame hc ho (st := .payload) Nat.one_pos
  | send cmd =>
    unfold startPos
    split_ifs with he
    · exact unitPlace_enterSettle nofun
    · exact unitPlace_enterFrame hc ho (List.length_pos_iff.2 (by simpa using he))

theorem unitPlace_afterFrame {pc p : TxPc} (hop : ∀ code, op ≠ .level code) (h : afterFrame c op pc = some p) :
    UnitPlace c op p := by
  unfold afterFrame at h
  split_ifs at h with hk
  · cases h
    exact unitPlace_enterFrame hc ho hk
  · split at h
    · cases h
      exact unitPlace_enterSettle hop
    · exact unitPlace_enterPayload hc ho h
    · exact unitPlace_enterStop hc ho h
    · cases h

/-- The sequencer goes from a place in a frame to a place of the operation (R122, R124, R130). -/
theorem unitPlace_nextInFrame {pc p : TxPc} {body : List SymCode} (hop : ∀ code, op ≠ .level code)
    (hs : pc.stage ≠ .settle) (hb : frameBody? c op pc = some body) (h : nextInFrame c op body pc = some p) :
    UnitPlace c op p := by
  unfold nextInFrame at h
  split at h
  · split_ifs at h with hj hlen <;> cases h
    · exact unitPlace_atUnit hop hs hb (by rw [partUnit, List.getElem?_eq_getElem hj]; rfl)
    · exact unitPlace_atUnit hop hs hb rfl
    · exact unitPlace_atUnit hop hs hb (by rw [partUnit, List.getElem?_eq_getElem (Nat.pos_of_ne_zero hlen)]; rfl)
  · split_ifs at h with hj <;> cases h
    · exact unitPlace_atUnit hop hs hb (by rw [partUnit, List.getElem?_eq_getElem hj]; rfl)
    · exact unitPlace_atUnit hop hs hb rfl
  · exact unitPlace_afterFrame hc ho hop h

/-- The sequencer goes from a unit to a unit of the operation (R130). -/
theorem unitPlace_nextUnit {pc p : TxPc} {u : TxUnit} (hu : unitAt c op pc = some u)
    (h : nextUnit c op pc = some p) : UnitPlace c op p := by
  have hop : ∀ code, op ≠ .level code := by
    rintro code rfl
    cases h
  by_cases hs : pc.stage = .settle
  · rw [nextUnit_settle hop hs] at h
    exact unitPlace_enterPayload hc ho h
  · rw [unitAt_inFrame hop hs, Option.bind_eq_some_iff] at hu
    obtain ⟨body, hb, -⟩ := hu
    rw [nextUnit_inFrame hop hs, hb] at h
    exact unitPlace_nextInFrame hc ho hop hs hb h

end Places

/-! ### The running segment -/

/-- A unit without a reserved symbol has a segment in each half (R105 to R109). -/
theorem segmentOf_exists (c : Config) {u : TxUnit} (h : Half) (hu : ∀ code, u = .symbol code → code.toNat ≤ 4) :
    ∃ g, segmentOf c u h = some g := by
  cases u with
  | silence d => exact ⟨_, rfl⟩
  | symbol code =>
    have h4 := hu code rfl
    have hcode : code.toNat = 0 ∨ code.toNat = 1 ∨ code.toNat = 2 ∨ code.toNat = 3 ∨ code.toNat = 4 := by omega
    obtain hcode | hcode | hcode | hcode | hcode := hcode <;> simp [segmentOf, hcode]

/-- Only the first half of a carrier cycle has the line on (R105). -/
theorem segmentOf_v {c : Config} {u : TxUnit} {h : Half} {g : Segment} (hg : segmentOf c u h = some g) :
    g.v = (hasCycles u && decide (h = .on)) := by
  cases u with
  | silence d => cases hg; rfl
  | symbol code =>
    simp only [segmentOf] at hg
    split at hg <;> cases hg <;> rename_i hc <;> simp [hasCycles, hc]

/-- All that `posLegal` says (R24, log 5). -/
theorem posLegal_iff {c : Config} {op : TxOp} {pc : TxPc} :
    posLegal c op pc = true ↔ opLegal c op = true ∧ ∃ u g, unitAt c op pc = some u ∧ segmentOf c u pc.half = some g
      ∧ (hasCycles u = true ∨ pc.cyc.val = 0 ∧ pc.half = .on) ∧ pc.rem ≤ g.d := by
  unfold posLegal
  cases unitAt c op pc with
  | none => simp
  | some u =>
    cases hg : segmentOf c u pc.half <;> simp [hg]

/-- A segment that has not begun does not show on the line. -/
theorem lineMatches_fresh {c : Config} {t : TxHalf} (h : t.pc.rem = 0) : lineMatches c t = true := by
  unfold lineMatches
  repeat' split
  all_goals simp [h]

theorem lineMatches_iff {c : Config} {t : TxHalf} {u : TxUnit} {g : Segment} (hu : unitAt c t.op t.pc = some u)
    (hg : segmentOf c u t.pc.half = some g) : lineMatches c t = true ↔ t.pc.rem = 0 ∨ t.line = g.v := by
  simp [lineMatches, hu, hg]

/-- After a segment the sequencer goes to another half cycle of the same `High`, or, the line being off, to the next unit
(R24, R105). -/
theorem nextSegment_cases {c : Config} {op : TxOp} {u : TxUnit} {pc : TxPc} {g : Segment}
    (hg : segmentOf c u pc.half = some g) :
    (hasCycles u = true ∧ ∃ cyc half, nextSegment c op u pc = some { pc with cyc := cyc, half := half, rem := 0 })
      ∨ (g.v = false ∧ nextSegment c op u pc = nextUnit c op pc) := by
  have hv := segmentOf_v hg
  unfold nextSegment
  cases hu : hasCycles u
  · exact .inr ⟨by rw [hv, hu, Bool.false_and], rfl⟩
  · cases hh : pc.half with
    | on => exact .inl ⟨rfl, pc.cyc, .off, rfl⟩
    | off =>
      by_cases h7 : pc.cyc.val < 7
      · exact .inl ⟨rfl, Fin.ofNat 8 (pc.cyc.val + 1), .on, by simp [h7]⟩
      · exact .inr ⟨by simp [hv, hh], by simp [h7]⟩

/-- A place before a unit is legal, and nothing of the unit has begun (R24). -/
theorem posLegal_of_unitPlace {c : Config} {op : TxOp} {pc : TxPc} (hc : configLegal c = true)
    (ho : opLegal c op = true) (hp : UnitPlace c op pc) : posLegal c op pc = true ∧ pc.rem = 0 := by
  obtain ⟨ha, u, hu⟩ := hp
  simp only [atUnitStart, Bool.and_eq_true, decide_eq_true_eq] at ha
  obtain ⟨⟨hcyc, hon⟩, hrem⟩ := ha
  obtain ⟨g, hg⟩ := segmentOf_exists c pc.half (u := u) fun code hcode => unitAt_symbol_legal hc ho (hcode ▸ hu)
  exact ⟨posLegal_iff.2 ⟨ho, u, g, hu, hg, .inr ⟨hcyc, hon⟩, by omega⟩, hrem⟩

/-- Another half cycle of a `High` is a legal place, and its segment has not begun (R105). -/
theorem posLegal_halfCycle {c : Config} {op : TxOp} {pc : TxPc} {u : TxUnit} (ho : opLegal c op = true)
    (hc : configLegal c = true) (hu : unitAt c op pc = some u) (hcyc : hasCycles u = true) (cyc : Fin 8) (half : Half) :
    posLegal c op { pc with cyc := cyc, half := half, rem := 0 } = true := by
  obtain ⟨g, hg⟩ := segmentOf_exists c half (u := u) fun code hcode => unitAt_symbol_legal hc ho (hcode ▸ hu)
  exact posLegal_iff.2 ⟨ho, u, g, hu, hg, .inl hcyc, Nat.zero_le _⟩

/-! ### The invariant of the transmit half -/

/-- The transmission is inside the segment `g` of the unit `u`, which has begun. -/
structure InSegment (c : Config) (t : TxHalf) (u : TxUnit) (g : Segment) : Prop where
  busy    : t.busy = true
  driven  : t.driven = true
  legal   : opLegal c t.op = true
  unit    : unitAt c t.op t.pc = some u
  segment : segmentOf c u t.pc.half = some g
  cycles  : hasCycles u = true ∨ t.pc.cyc.val = 0 ∧ t.pc.half = .on
  rem     : t.pc.rem ≤ g.d
  line    : t.line = g.v

/-- Once its segment has begun, a transmission is inside it (R104). -/
theorem inSegment_beginSegment {s : State} {u : TxUnit} {g : Segment} (hi : TxInv s.cfg s.tx)
    (hb : s.tx.busy = true) (hu : unitAt s.cfg s.tx.op s.tx.pc = some u)
    (hg : segmentOf s.cfg u s.tx.pc.half = some g) : InSegment s.cfg (beginSegment g s).tx u g := by
  obtain ⟨hd, hp, hl⟩ := hi.1 hb
  obtain ⟨ho, u', g', hu', hg', hcyc, hrem⟩ := posLegal_iff.1 hp
  obtain rfl : u = u' := Option.some.inj (hu.symm.trans hu')
  obtain rfl : g = g' := Option.some.inj (hg.symm.trans hg')
  by_cases h0 : s.tx.pc.rem = 0
  · rw [beginSegment_fresh h0]
    exact ⟨hb, hd, ho, hu, hg, hcyc, le_refl _, rfl⟩
  · rw [beginSegment_running h0]
    exact ⟨hb, hd, ho, hu, hg, hcyc, hrem, ((lineMatches_iff hu hg).1 hl).resolve_left h0⟩

theorem InSegment.countDown {c : Config} {t : TxHalf} {u : TxUnit} {g : Segment} (h : InSegment c t u g) (n : Nat) :
    InSegment c { t with pc := { t.pc with rem := t.pc.rem - n } } u g :=
  { h with rem := (Nat.sub_le _ _).trans h.rem }

theorem InSegment.txInv {c : Config} {t : TxHalf} {u : TxUnit} {g : Segment} (h : InSegment c t u g) : TxInv c t :=
  ⟨fun _ => ⟨h.driven, posLegal_iff.2 ⟨h.legal, u, g, h.unit, h.segment, h.cycles, h.rem⟩,
      (lineMatches_iff h.unit h.segment).2 (.inr h.line)⟩,
    fun hb => absurd (h.busy.symm.trans hb) nofun⟩

/-- Going to a legal place whose segment has not begun, or ending with the line off, keeps the invariant (R112, R234). -/
theorem txInv_goTo {s : State} {p? : Option TxPc} (hb : s.tx.busy = true) (hd : s.tx.driven = true)
    (hgo : ∀ p, p? = some p → posLegal s.cfg s.tx.op p = true ∧ p.rem = 0) (hend : p? = none → s.tx.line = false) :
    TxInv s.cfg (goTo p? s).tx := by
  cases p? with
  | none => exact ⟨nofun, fun _ _ => hend rfl⟩
  | some p =>
    obtain ⟨hp, h0⟩ := hgo p rfl
    exact ⟨fun _ => ⟨hd, hp, lineMatches_fresh h0⟩, fun hb' => absurd (hb.symm.trans hb') nofun⟩

/-- Past a unit, the line being off, the sequencer keeps the invariant (R130). -/
theorem txInv_goTo_nextUnit {s : State} {pc : TxPc} {u : TxUnit} (hc : configLegal s.cfg = true)
    (hb : s.tx.busy = true) (hd : s.tx.driven = true) (ho : opLegal s.cfg s.tx.op = true)
    (hu : unitAt s.cfg s.tx.op pc = some u) (hline : s.tx.line = false) :
    TxInv s.cfg (goTo (nextUnit s.cfg s.tx.op pc) s).tx :=
  txInv_goTo hb hd (fun _ hp => posLegal_of_unitPlace hc ho (unitPlace_nextUnit hc ho hu hp)) fun _ => hline

/-- Time that passes inside a segment, to its end or not, keeps the invariant (R24, R104). -/
theorem txInv_passTime {s : State} {u : TxUnit} {g : Segment} (hc : configLegal s.cfg = true)
    (hi : InSegment s.cfg s.tx u g) (n : Nat) : TxInv s.cfg (passTime n u s).tx := by
  obtain ⟨-, h⟩ | ⟨-, h⟩ := passTime_cases n u s <;> rw [h]
  · exact (hi.countDown n).txInv
  · obtain ⟨hcyc, cyc, half, hn⟩ | ⟨hv, hn⟩ := nextSegment_cases (op := s.tx.op) hi.segment <;> rw [hn]
    · refine txInv_goTo hi.busy hi.driven (fun p hp => ?_) nofun
      cases hp
      exact ⟨posLegal_halfCycle hi.legal hc hi.unit hcyc cyc half, rfl⟩
    · exact txInv_goTo_nextUnit hc hi.busy hi.driven hi.legal hi.unit (hi.line.trans hv)

/-- The line is off after the segments of a symbol (R105 to R109). -/
theorem emitAll_symbolTrain_line {c : Config} {code : SymCode} {i : Instr} (h : decodeSymbol code = some i)
    (t : TxHalf) : (emitAll (symbolTrain c code) t).line = false := by
  unfold decodeSymbol at h
  split at h <;> cases h <;> rename_i hcode <;> rw [symbolTrain, hcode] <;> rfl

/-- A unit that is run whole and leaves the line off keeps the invariant. -/
theorem inv_advanceUnit {s : State} {gs : List Segment} {u : TxUnit} (hi : Inv s) (hb : s.tx.busy = true)
    (hu : unitAt s.cfg s.tx.op s.tx.pc = some u) (hline : (emitAll gs s.tx).line = false) :
    Inv (advanceUnit (emitTrain gs s)) := by
  obtain ⟨hc, htx, hrx⟩ := hi
  obtain ⟨hd, hp, -⟩ := htx.1 hb
  obtain ⟨ho, -⟩ := posLegal_iff.1 hp
  have ht := txInv_goTo_nextUnit (s := emitTrain gs s) (pc := s.tx.pc) hc (by simpa using hb) (by simpa using hd)
    (by simpa using ho) (by simpa using hu) hline
  rw [advanceUnit_emitTrain]
  exact ⟨by simpa using hc, by simpa using ht, by simpa using hrx⟩

/-- A segment run to its end is time that passes in it (log 6). -/
theorem finishSegment_cases {s t : State} (h : finishSegment s = .next t) :
    ∃ u g n, unitAt s.cfg s.tx.op s.tx.pc = some u ∧ segmentOf s.cfg u s.tx.pc.half = some g
      ∧ t = passTime n u (beginSegment g s) := by
  unfold finishSegment at h
  split at h
  · cases h
  · rename_i u hu
    split at h
    · cases h
    · rename_i g hg
      cases h
      exact ⟨u, g, _, hu, hg, rfl⟩

@[simp] theorem passTime_cfg (n : Nat) (u : TxUnit) (s : State) : (passTime n u s).cfg = s.cfg := by
  obtain ⟨-, h⟩ | ⟨-, h⟩ := passTime_cases n u s <;> simp [h]

@[simp] theorem passTime_rx (n : Nat) (u : TxUnit) (s : State) : (passTime n u s).rx = s.rx := by
  obtain ⟨-, h⟩ | ⟨-, h⟩ := passTime_cases n u s <;> simp [h]

/-- Time in the segment at `tx_pc` keeps the invariant. -/
theorem inv_passTime_beginSegment {s : State} {u : TxUnit} {g : Segment} (hi : Inv s) (hb : s.tx.busy = true)
    (hu : unitAt s.cfg s.tx.op s.tx.pc = some u) (hg : segmentOf s.cfg u s.tx.pc.half = some g) (n : Nat) :
    Inv (passTime n u (beginSegment g s)) := by
  obtain ⟨hc, htx, hrx⟩ := hi
  have hin := inSegment_beginSegment htx hb hu hg
  have ht := txInv_passTime (s := beginSegment g s) (by simpa using hc) (by simpa using hin) n
  exact ⟨by simpa using hc, by simpa using ht, by simpa using hrx⟩

/-- Transmitter time keeps the invariant. -/
theorem inv_runTime {n : Nat} {s t : State} (hi : Inv s) (h : runTime n s = .next t) : Inv t := by
  obtain ⟨-, rfl⟩ | ⟨hb, u, g, hu, hg, rfl⟩ := runTime_cases h
  · exact hi
  · exact inv_passTime_beginSegment hi hb hu hg n

/-- A unit run whole keeps the invariant. -/
theorem inv_runUnit {s t : State} (hi : Inv s) (h : runUnit s = .next t) : Inv t := by
  obtain ⟨-, rfl⟩ | ⟨hb, -, ⟨d, hu, rfl⟩ | ⟨c, i, v, hu, hd, hv, rfl⟩⟩ | ⟨hb, -, hf⟩ := runUnit_cases h
  · exact hi
  · exact inv_advanceUnit hi hb hu rfl
  · rw [exec_symbol hd] at hv
    cases hv
    exact inv_advanceUnit hi hb hu (emitAll_symbolTrain_line hd s.tx)
  · obtain ⟨u, g, n, hu, hg, rfl⟩ := finishSegment_cases hf
    exact inv_passTime_beginSegment hi hb hu hg n

/-! ### The invariant of the receive half -/

theorem rxInv_initRx (r : RxHalf) : RxInv (initRx r) := ⟨rfl, fun _ => ⟨fun _ => rfl, fun _ => rfl⟩, nofun⟩

theorem rxInv_resetRx (n : Nat) : RxInv (resetRx n) := ⟨rfl, nofun, nofun⟩

theorem rxInv_tickRx {r : RxHalf} (h : RxInv r) : RxInv (tickRx r) := by
  rw [tickRx_frame]
  exact h

theorem rxInv_pollRx {r : RxHalf} (h : RxInv r) : RxInv (pollRx r) := by
  obtain ⟨-, -, -, hslot, hsel, -, hovf, hedge, hdirty, hover, -⟩ := pollRx_frame r
  rw [RxInv, hslot, hsel, hovf, hedge, hdirty, hover]
  exact h

/-- Watching for a falling edge and standing at an even slot turn over together, 29 going to 0 (R144, R148). -/
theorem flip_falling_iff_nextSlot_even {p : Polarity} {i : Fin 30} (h : p = .falling ↔ i.val % 2 = 0) :
    p.flip = .falling ↔ (nextSlot i).val % 2 = 0 := by
  have hi := i.isLt
  rw [nextSlot_val]
  cases p with
  | falling =>
    have := h.1 rfl
    simp only [Polarity.flip_falling, reduceCtorEq, false_iff]
    omega
  | rising =>
    have : i.val % 2 ≠ 0 := fun h0 => nomatch h.2 h0
    simp only [Polarity.flip_rising, true_iff]
    omega

/-- An accepted edge marks a dirty window whenever it marks an overrun (R41, R152). -/
theorem ghostOnEdge_overrun_dirty {r : RxHalf} (h : r.gOverrun = true → r.gDirty = true) :
    (ghostOnEdge r).gOverrun = true → (ghostOnEdge r).gDirty = true := by
  simp only [ghostOnEdge_gOverrun, ghostOnEdge_gDirty, overrunAfterEdge, dirtyAfterEdge, Bool.or_eq_true,
    Bool.and_eq_true]
  exact Or.imp h And.left

theorem acceptEdge_ghosts (r : RxHalf) :
    (acceptEdge r).gOverrun = (ghostOnEdge r).gOverrun ∧ (acceptEdge r).gDirty = (ghostOnEdge r).gDirty := by
  obtain ⟨-, h⟩ | ⟨-, h⟩ := acceptEdge_cases r <;> rw [h] <;> exact ⟨rfl, rfl⟩

theorem rxInv_acceptEdge {r : RxHalf} (h : RxInv r) : RxInv (acceptEdge r) := by
  obtain ⟨hen, hsel, hghost⟩ := h
  obtain ⟨-, -, hovf, hedge, -⟩ := acceptEdge_frame r
  obtain ⟨-, hflip, hslot⟩ := acceptEdge_writes r
  obtain ⟨hover, hdirty⟩ := acceptEdge_ghosts r
  rw [RxInv, hovf, hedge, hflip, hslot, hover, hdirty]
  exact ⟨hen, fun he => flip_falling_iff_nextSlot_even (hsel he), ghostOnEdge_overrun_dirty hghost⟩

theorem rxInv_edgeRx {r : RxHalf} (p : Polarity) (h : RxInv r) : RxInv (edgeRx p r) := by
  obtain ⟨-, -, he⟩ | ⟨-, he⟩ := edgeRx_cases p r <;> rw [he]
  · exact rxInv_acceptEdge h
  · exact h

/-! ### Every step keeps the invariant -/

/-- An accepted operation stands at a legal place with nothing begun (R127). -/
theorem txInv_begun {c : Config} {t : TxHalf} {op : TxOp} (hc : configLegal c = true) (ho : opLegal c op = true)
    (hd : t.driven = true) : TxInv c { t with busy := true, op := op, pc := startPos c op } := by
  obtain ⟨hp, h0⟩ := posLegal_of_unitPlace hc ho (unitPlace_startPos hc ho)
  exact ⟨fun _ => ⟨hd, hp, lineMatches_fresh h0⟩, nofun⟩

/-- Host words and triggers keep the invariant; symbols are the sequencer's. -/
theorem inv_exec {i : Instr} {s t : State} (hi : Inv s) (hsym : ∀ c, decodeSymbol c ≠ some i)
    (h : exec i s = .next t) : Inv t := by
  obtain ⟨hc, htx, hrx⟩ := hi
  cases exec_effect h with
  | answered => exact ⟨hc, htx, hrx⟩
  | encInit _ hb => exact ⟨hc, ⟨fun hb' => absurd (hb.symm.trans hb') nofun, fun _ _ => rfl⟩, hrx⟩
  | begun op hop _ hd => exact ⟨hc, txInv_begun hc (opLegal_of_txOpOf hop) hd, hrx⟩
  | decInit => exact ⟨hc, htx, rxInv_initRx s.rx⟩
  | polled => exact ⟨hc, htx, rxInv_pollRx hrx⟩
  | emitted c hd => exact absurd hd (hsym c)
  | ticked => exact ⟨hc, htx, rxInv_tickRx hrx⟩
  | edged p => exact ⟨hc, htx, rxInv_edgeRx p hrx⟩

/-- A hardware reset meets the invariant, nothing being initialised (R42, R220). -/
theorem inv_hardwareReset {s : State} (hc : configLegal s.cfg = true) : Inv (hardwareReset s) :=
  ⟨hc, ⟨nofun, nofun⟩, rxInv_resetRx s.freeCtr⟩

theorem isHostOp_decodeHost (w : HostWord) : isHostOp (decodeHost w) = true := by
  unfold decodeHost
  split <;> rfl

theorem isTrigger_of_decodeTrigger {c : TrigCode} {i : Instr} (h : decodeTrigger c = some i) : isTrigger i = true := by
  unfold decodeTrigger at h
  split at h <;> cases h <;> rfl

/-- Settles O50: each input of a step is an instruction, a move of the sequencer or a reset, and each of these keeps the
invariant. -/
theorem everyStepKeepsTheInvariant : Obligations.EveryStepKeepsTheInvariant := by
  intro s t hi h
  obtain ⟨hc, h⟩ := step_legal h
  obtain ⟨-, h⟩ | ⟨w, rest, -, -, h⟩ | ⟨w, rest, -, -, h⟩ | ⟨c, rest, i, -, hd, h⟩ | ⟨n, rest, -, h⟩ | ⟨rest, -, h⟩
    | ⟨rest, -, rfl⟩ := runInput_cases h
  · exact inv_runUnit hi h
  · exact inv_runUnit hi h
  · refine inv_exec (s := popInput rest s) hi (fun c hc => ?_) h
    obtain ⟨-, hn, -⟩ := isTxInstr_of_decodeSymbol hc
    exact absurd ((isHostOp_decodeHost w).symm.trans hn) nofun
  · refine inv_exec (s := popInput rest s) hi (fun c hc => ?_) h
    obtain ⟨-, -, hn⟩ := isTxInstr_of_decodeSymbol hc
    exact absurd ((isTrigger_of_decodeTrigger hd).symm.trans hn) nofun
  · exact inv_runTime (s := popInput rest s) hi h
  · exact inv_runUnit (s := popInput rest s) hi h
  · exact inv_hardwareReset hc

end Sys2Proof.Machine

/-! The proofs of the family 10_state: the reset values, the timestamp, time inside a segment, the busy port, and who writes
the receive half. -/

namespace Sys2Proof.Machine

/-! ### Reset -/

/-- Settles O47: each is a field of the reset state. -/
theorem resetHoldsTheGivenValues : Obligations.ResetHoldsTheGivenValues :=
  ⟨rfl, rfl, rfl, rfl, rfl, rfl, rfl, rfl, rfl⟩

theorem runInput_hwReset {s : State} {rest : List Input} (h : s.inputs = .hwReset :: rest) :
    runInput s = .next (hardwareReset (popInput rest s)) := by
  simp [runInput, h]

/-- Settles O48: the step is a hardware reset, whatever the state holds. -/
theorem hardwareResetReturnsToTheUninitialisedState : Obligations.HardwareResetReturnsToTheUninitialisedState := by
  intro s rest hc hin
  refine ⟨hardwareReset (popInput rest s), ?_, rfl, rfl, rfl, rfl, rfl, rfl, rfl, rfl, rfl, rfl, rfl⟩
  rw [step_eq_runInput hc, runInput_hwReset hin]

/-! ### The timestamp -/

/-- Settles O24: the low part of the concatenation is below 65536, so nothing overlaps. -/
theorem timestampIsTallyTimesWidthPlusCount : Obligations.TimestampIsTallyTimesWidthPlusCount := by
  intro tally cnt
  calc (absStamp tally cnt).toNat
      = tally.toNat <<< 16 ||| cnt.toNat := BitVec.toNat_append ..
    _ = tally.toNat <<< 16 + cnt.toNat   := (Nat.shiftLeft_add_eq_or_of_lt cnt.isLt _).symm
    _ = tally.toNat * 65536 + cnt.toNat  := by rw [Nat.shiftLeft_eq]

/-! ### Time inside a segment -/

/-- Time shorter than what is left of a running segment counts down (R24). -/
theorem runTime_inside {n : Nat} {s : State} {u : TxUnit} {g : Segment} (hb : s.tx.busy = true)
    (hu : unitAt s.cfg s.tx.op s.tx.pc = some u) (hg : segmentOf s.cfg u s.tx.pc.half = some g)
    (hn : n < s.tx.pc.rem) :
    runTime n s = .next { s with tx := { s.tx with pc := { s.tx.pc with rem := s.tx.pc.rem - n } } } := by
  have hrun : beginSegment g s = s := beginSegment_running (by omega)
  simp [runTime, hb, hu, hg, hrun, passTime, hn]

/-- Settles O7: by the invariant `tx_pc` stands on a segment, which has begun because time of it is left. -/
theorem timeInsideASegmentOnlyCountsDown : Obligations.TimeInsideASegmentOnlyCountsDown := by
  rintro s rest n ⟨hc, htx, -⟩ hin hb hn
  obtain ⟨-, hp, -⟩ := htx.1 hb
  obtain ⟨-, u, g, hu, hg, -⟩ := posLegal_iff.1 hp
  rw [step_eq_runInput hc, runInput_txTime hin]
  exact runTime_inside (s := popInput rest s) hb hu hg hn

/-! ### The sequencer writes the transmit half only -/

@[simp] theorem beginSegment_inputs (g : Segment) (s : State) : (beginSegment g s).inputs = s.inputs := by
  unfold beginSegment; split <;> rfl

@[simp] theorem passTime_inputs (n : Nat) (u : TxUnit) (s : State) : (passTime n u s).inputs = s.inputs := by
  obtain ⟨-, h⟩ | ⟨-, h⟩ := passTime_cases n u s <;> simp [h]

/-- Transmitter time leaves the parameters, the receive half and the inputs alone (R2, R26). -/
theorem runTime_frame {n : Nat} {s t : State} (h : runTime n s = .next t) :
    t.cfg = s.cfg ∧ t.rx = s.rx ∧ t.inputs = s.inputs := by
  obtain ⟨-, rfl⟩ | ⟨-, u, g, -, -, rfl⟩ := runTime_cases h
  · exact ⟨rfl, rfl, rfl⟩
  · simp

/-- A unit run whole leaves the parameters, the receive half and the inputs alone (R2, R26). -/
theorem runUnit_frame {s t : State} (h : runUnit s = .next t) :
    t.cfg = s.cfg ∧ t.rx = s.rx ∧ t.inputs = s.inputs := by
  obtain ⟨-, rfl⟩ | ⟨-, -, ⟨d, -, rfl⟩ | ⟨c, i, v, -, hd, hv, rfl⟩⟩ | ⟨-, -, hf⟩ := runUnit_cases h
  · exact ⟨rfl, rfl, rfl⟩
  · simp [advanceUnit]
  · rw [exec_symbol hd] at hv
    cases hv
    simp [advanceUnit]
  · obtain ⟨u, g, n, -, -, rfl⟩ := finishSegment_cases hf
    simp

/-! ### The busy port -/

/-- While `tx_busy = 1` a host word waits and the sequencer goes on (R127). -/
theorem runInput_host_busy {s : State} {w : HostWord} {rest : List Input} (h : s.inputs = .host w :: rest)
    (hb : s.tx.busy = true) : runInput s = runUnit s := by
  simp [runInput, h, hb]

/-- A step depends on the configuration and on what the next input does. -/
theorem step_congr {s t : State} (hc : s.cfg = t.cfg) (h : runInput s = runInput t) : step s = step t := by
  rw [step, step, runStep, runStep, hc, h]

/-- Settles O8: behind a busy port both steps are the sequencer's unit, which does not write the inputs. -/
theorem busyPortAcceptsNothing : Obligations.BusyPortAcceptsNothing := by
  refine ⟨fun i s => exec_hostOp_busy, fun s w rest hb hin => ?_⟩
  have hrun : runInput s = runUnit s := runInput_host_busy hin hb
  refine ⟨step_congr rfl ?_, fun t h => ?_⟩
  · rw [hrun, runInput_txSymbol rfl]
    rfl
  · obtain ⟨-, h⟩ := step_legal h
    rw [hrun] at h
    obtain ⟨-, -, hinputs⟩ := runUnit_frame h
    exact hinputs

/-! ### Who writes the receive half -/

/-- Everything that executing an instruction can do to the receive half (R32, R62, R68). -/
theorem exec_rx_cases {i : Instr} {s t : State} (h : exec i s = .next t) :
    t.rx = s.rx ∨ (i = .decInit 0 ∧ t.rx = initRx s.rx) ∨ (i = .decPoll 0 ∧ t.rx = pollRx s.rx)
      ∨ (i = .tick ∧ t.rx = tickRx s.rx) ∨ (∃ p, i = edgeInstr p ∧ t.rx = edgeRx p s.rx) := by
  cases exec_effect h with
  | answered | encInit | begun | emitted => exact .inl rfl
  | decInit hi => exact .inr (.inl ⟨hi, rfl⟩)
  | polled hi => exact .inr (.inr (.inl ⟨hi, rfl⟩))
  | ticked hi => exact .inr (.inr (.inr (.inl ⟨hi, rfl⟩)))
  | edged p hi => exact .inr (.inr (.inr (.inr ⟨p, hi, rfl⟩)))

/-- An edge leaves the clock, the enables, the buffer and `g_oob` alone (R144 to R147). -/
theorem edgeRx_frame (p : Polarity) (r : RxHalf) :
    (edgeRx p r).cnt16 = r.cnt16 ∧ (edgeRx p r).ovfTally = r.ovfTally ∧ (edgeRx p r).irqOvfEn = r.irqOvfEn
      ∧ (edgeRx p r).irqEdgeEn = r.irqEdgeEn ∧ (edgeRx p r).buf = r.buf ∧ (edgeRx p r).fill = r.fill
      ∧ (edgeRx p r).gOob = r.gOob := by
  obtain ⟨-, -, h⟩ | ⟨-, h⟩ := edgeRx_cases p r <;> rw [h]
  · exact acceptEdge_frame r
  · exact ⟨rfl, rfl, rfl, rfl, rfl, rfl, rfl⟩

/-- An edge does not clear `window_full` (R32). -/
theorem edgeRx_windowFull (p : Polarity) {r : RxHalf} (hr : r.windowFull = true) :
    (edgeRx p r).windowFull = true := by
  obtain ⟨-, -, h⟩ | ⟨-, h⟩ := edgeRx_cases p r <;> rw [h]
  · obtain ⟨-, h⟩ | ⟨-, h⟩ := acceptEdge_cases r <;> simp [h, hr]
  · exact hr

/-- Settles O53: each of the four writers may change what its own clauses name, and its frame says that it leaves the other
fields alone. -/
theorem eachReceiveFieldHasItsWriters : Obligations.EachReceiveFieldHasItsWriters := by
  intro i s t h
  obtain hrx | ⟨rfl, hrx⟩ | ⟨rfl, hrx⟩ | ⟨rfl, hrx⟩ | ⟨p, rfl, hrx⟩ := exec_rx_cases h <;> rw [hrx]
  · simp +contextual
  · simp
  · obtain ⟨hcnt, htally, hwin, hslot, hsel, hcount, hovf, hedge, -, -, hfull⟩ := pollRx_frame s.rx
    simp [hcnt, htally, hwin, hslot, hsel, hcount, hovf, hedge, hfull]
  · rw [tickRx_frame]
    simp +contextual
  · obtain ⟨hcnt, htally, hovf, hedge, hbuf, hfill, -⟩ := edgeRx_frame p s.rx
    have hfull : s.rx.windowFull = true → (edgeRx p s.rx).windowFull = true := edgeRx_windowFull p
    cases p <;> simp +contextual [edgeInstr, hcnt, htally, hovf, hedge, hbuf, hfill, hfull]

/-! ### What a step can clear -/

/-- No enable that is set in the first is clear in the second (R34). -/
def EnablesKept (r r' : RxHalf) : Prop :=
  (r.irqOvfEn = true → r'.irqOvfEn = true) ∧ (r.irqEdgeEn = true → r'.irqEdgeEn = true)

/-- No ghost flag that is set in the first is clear in the second (R41). -/
def GhostsKept (r r' : RxHalf) : Prop :=
  (r.gDirty = true → r'.gDirty = true) ∧ (r.gOverrun = true → r'.gOverrun = true) ∧ (r.gOob = true → r'.gOob = true)

theorem enablesKept_refl (r : RxHalf) : EnablesKept r r := ⟨id, id⟩

theorem ghostsKept_refl (r : RxHalf) : GhostsKept r r := ⟨id, id, id⟩

theorem ghostsKept_pollRx (r : RxHalf) : GhostsKept r (pollRx r) := by
  obtain ⟨-, -, -, -, -, -, -, -, hdirty, hover, -⟩ := pollRx_frame r
  refine ⟨hdirty ▸ id, hover ▸ id, fun hoob => ?_⟩
  cases hf : r.windowFull <;> simp [pollRx, pollDecode, oobAfterDecode, hf, hoob]

theorem ghostsKept_edgeRx (p : Polarity) (r : RxHalf) : GhostsKept r (edgeRx p r) := by
  obtain ⟨-, -, h⟩ | ⟨-, h⟩ := edgeRx_cases p r <;> rw [h]
  · obtain ⟨hover, hdirty⟩ := acceptEdge_ghosts r
    obtain ⟨-, -, -, -, -, -, hoob⟩ := acceptEdge_frame r
    refine ⟨fun hd => ?_, fun ho => ?_, hoob ▸ id⟩
    · simp [hdirty, dirtyAfterEdge, hd]
    · simp [hover, overrunAfterEdge, ho]
  · exact ghostsKept_refl r

/-- No instruction clears an enable; DEC_INIT sets both (R140). -/
theorem exec_enablesKept {i : Instr} {s t : State} (h : exec i s = .next t) : EnablesKept s.rx t.rx := by
  obtain hrx | ⟨-, hrx⟩ | ⟨-, hrx⟩ | ⟨-, hrx⟩ | ⟨p, -, hrx⟩ := exec_rx_cases h <;> rw [hrx]
  · exact enablesKept_refl s.rx
  · exact ⟨fun _ => rfl, fun _ => rfl⟩
  · obtain ⟨-, -, -, -, -, -, hovf, hedge, -⟩ := pollRx_frame s.rx
    exact ⟨hovf ▸ id, hedge ▸ id⟩
  · rw [tickRx_frame]
    exact ⟨id, id⟩
  · obtain ⟨-, -, hovf, hedge, -⟩ := edgeRx_frame p s.rx
    exact ⟨hovf ▸ id, hedge ▸ id⟩

/-- Only DEC_INIT clears a ghost flag (R41). -/
theorem exec_ghostsKept {i : Instr} {s t : State} (hi : i ≠ .decInit 0) (h : exec i s = .next t) :
    GhostsKept s.rx t.rx := by
  obtain hrx | ⟨hinit, -⟩ | ⟨-, hrx⟩ | ⟨-, hrx⟩ | ⟨p, -, hrx⟩ := exec_rx_cases h
  · exact hrx ▸ ghostsKept_refl s.rx
  · exact absurd hinit hi
  · exact hrx ▸ ghostsKept_pollRx s.rx
  · rw [hrx, tickRx_frame]
    exact ⟨id, id, id⟩
  · exact hrx ▸ ghostsKept_edgeRx p s.rx

/-- The one host word that is read as DEC_INIT with its legal operand (R82). -/
theorem eq_of_decodeHost_decInit {w : HostWord} (h : decodeHost w = .decInit 0) : w = 0x0400 := by
  unfold decodeHost at h
  split at h <;> injection h
  rename_i hopc harg
  have hopc' : opcOf w = 4 := BitVec.eq_of_toNat_eq hopc
  rw [← hostWord_opcOf_argOf w, hopc', harg]
  rfl

/-- A step other than a reset is a move of the sequencer or executes an instruction, which is DEC_INIT only when the free
port takes its word (R2, R82, R127). -/
theorem step_rx_cases {s t : State} (h : step s = .next t) :
    t.cfg = s.cfg ∧ ((∃ rest, s.inputs = .hwReset :: rest) ∨ t.rx = s.rx
      ∨ ∃ i rest, exec i (popInput rest s) = .next t
          ∧ (i = .decInit 0 → s.inputs = .host 0x0400 :: rest ∧ s.tx.busy = false)) := by
  obtain ⟨-, h⟩ := step_legal h
  obtain ⟨-, h⟩ | ⟨w, rest, -, -, h⟩ | ⟨w, rest, hin, hb, h⟩ | ⟨c, rest, i, hin, hd, h⟩ | ⟨n, rest, -, h⟩
    | ⟨rest, -, h⟩ | ⟨rest, hin, rfl⟩ := runInput_cases h
  · obtain ⟨hcfg, hrx, -⟩ := runUnit_frame h
    exact ⟨hcfg, .inr (.inl hrx)⟩
  · obtain ⟨hcfg, hrx, -⟩ := runUnit_frame h
    exact ⟨hcfg, .inr (.inl hrx)⟩
  · obtain ⟨hcfg, -⟩ := exec_environment h
    exact ⟨hcfg, .inr (.inr ⟨_, rest, h, fun hi => ⟨eq_of_decodeHost_decInit hi ▸ hin, hb⟩⟩)⟩
  · obtain ⟨hcfg, -⟩ := exec_environment h
    refine ⟨hcfg, .inr (.inr ⟨i, rest, h, fun hi => ?_⟩)⟩
    subst hi
    exact nomatch isTrigger_of_decodeTrigger hd
  · obtain ⟨hcfg, hrx, -⟩ := runTime_frame h
    exact ⟨hcfg, .inr (.inl hrx)⟩
  · obtain ⟨hcfg, hrx, -⟩ := runUnit_frame h
    exact ⟨hcfg, .inr (.inl hrx)⟩
  · exact ⟨rfl, .inl ⟨rest, hin⟩⟩

/-- Settles O54: the sequencer leaves the receive half alone, and an instruction clears nothing unless it is DEC_INIT. -/
theorem ghostFlagsAndEnablesAreSticky : Obligations.GhostFlagsAndEnablesAreSticky := by
  intro s t h
  obtain ⟨hcfg, hreset | hrx | ⟨i, rest, h, hinit⟩⟩ := step_rx_cases h
  · exact ⟨hcfg, .inl hreset⟩
  · rw [hrx]
    exact ⟨hcfg, .inr ⟨id, id, .inr (ghostsKept_refl s.rx)⟩⟩
  · obtain ⟨hovf, hedge⟩ : EnablesKept s.rx t.rx := exec_enablesKept (s := popInput rest s) h
    refine ⟨hcfg, .inr ⟨hovf, hedge, ?_⟩⟩
    by_cases hi : i = .decInit 0
    · exact .inl ⟨rest, hinit hi⟩
    · exact .inr (exec_ghostsKept (s := popInput rest s) hi h)

end Sys2Proof.Machine

/-! The proof of the family 20_memory: what TICKs leave alone, how edges fill the window with timestamps, and how the decoder
reads a canonical window back. -/

namespace Sys2Proof.Machine

/-! ### TICKs in a row -/

/-- Any number of TICKs write the counter and the tally only (R141). -/
theorem ticksRx_frame (n : Nat) (r : RxHalf) :
    ticksRx n r = { r with cnt16 := (ticksRx n r).cnt16, ovfTally := (ticksRx n r).ovfTally } := by
  induction n generalizing r with
  | zero => rfl
  | succ n ih =>
    refine (ih (tickRx r)).trans ?_
    rw [ticksRx, tickRx_frame r]

@[simp] theorem ticksRx_slotIdx (n : Nat) (r : RxHalf) : (ticksRx n r).slotIdx = r.slotIdx := by rw [ticksRx_frame]
@[simp] theorem ticksRx_windowFull (n : Nat) (r : RxHalf) : (ticksRx n r).windowFull = r.windowFull := by
  rw [ticksRx_frame]
@[simp] theorem ticksRx_irqOvfEn (n : Nat) (r : RxHalf) : (ticksRx n r).irqOvfEn = r.irqOvfEn := by rw [ticksRx_frame]
@[simp] theorem ticksRx_irqEdgeEn (n : Nat) (r : RxHalf) : (ticksRx n r).irqEdgeEn = r.irqEdgeEn := by
  rw [ticksRx_frame]

/-- A TICK moves the timestamp on by one, the wrap of the counter being carried into the tally (R141, R142, R150). -/
theorem stampNow_tickRx {r : RxHalf} (hovf : r.irqOvfEn = true) : stampNow (tickRx r) = stampNow r + 1 := by
  apply BitVec.eq_of_toNat_eq
  rw [BitVec.toNat_add]
  unfold stampNow
  rw [timestampIsTallyTimesWidthPlusCount, timestampIsTallyTimesWidthPlusCount]
  have hcnt := r.cnt16.isLt
  have htally := r.ovfTally.isLt
  obtain ⟨hne, h⟩ | ⟨heq, -, h⟩ | ⟨-, hoff, -⟩ := tickRx_cases r
  · simp only [h, BitVec.toNat_add, BitVec.ofNat_eq_ofNat, BitVec.toNat_ofNat]
    omega
  · simp only [h, BitVec.toNat_add, BitVec.ofNat_eq_ofNat, BitVec.toNat_ofNat]
    omega
  · exact absurd (hovf.symm.trans hoff) nofun

/-- `n` TICKs move the timestamp on by `n` modulo 2^64 (R150, R151). -/
theorem stampNow_ticksRx {r : RxHalf} (n : Nat) (hovf : r.irqOvfEn = true) :
    stampNow (ticksRx n r) = stampNow r + BitVec.ofNat 64 n := by
  induction n generalizing r with
  | zero => exact (BitVec.add_zero _).symm
  | succ n ih =>
    have hovf' : (tickRx r).irqOvfEn = true := by rw [tickRx_frame]; exact hovf
    rw [ticksRx, ih hovf', stampNow_tickRx hovf, BitVec.add_assoc, Nat.add_comm n 1, BitVec.ofNat_add]
    rfl

/-! ### Filling the window -/

/-- No hazard is marked while no full window waits (R152). -/
theorem ghostOnEdge_of_not_full {r : RxHalf} (h : r.windowFull = false) : ghostOnEdge r = r := by
  simp only [ghostOnEdge, dirtyAfterEdge, overrunAfterEdge, h, Bool.false_and, Bool.or_false]
  rw [← h]

/-- An edge of the watched polarity is accepted (R144). -/
theorem tickedEdge_eq_acceptEdge {r : RxHalf} (n : Nat) (hedge : r.irqEdgeEn = true) :
    tickedEdge r n = acceptEdge (ticksRx n r) := by
  simp [tickedEdge, edgeRx, hedge]

/-- The entries up to and including the one just written. -/
theorem take_succ_toList_set {α : Type} {m : Nat} (v : Vector α m) (i : Fin m) (x : α) :
    (v.set i x).toList.take (i.val + 1) = v.toList.take i.val ++ [x] := by
  have hlen : i.val < v.toList.length := by simp
  rw [Vector.toList_set, List.take_add_one, List.getElem?_set_self hlen, List.take_set_of_le (Nat.le_refl _)]
  rfl

/-- `q` is reached from `r`, whose window is filling and not full, by edges stamped `stamps`, the last of which completes the
window (R147), while the buffer and the ghost flags stay as they are in `r` (R152). -/
structure CompletedBy (r : RxHalf) (stamps : List Stamp) (q : RxHalf) : Prop where
  win        : q.win.toList = r.win.toList.take r.slotIdx.val ++ stamps
  slotIdx    : q.slotIdx = 0
  windowFull : q.windowFull = true
  winCount   : q.winCount = r.winCount + 1
  buf        : q.buf = r.buf
  fill       : q.fill = r.fill
  gDirty     : q.gDirty = r.gDirty
  gOverrun   : q.gOverrun = r.gOverrun
  gOob       : q.gOob = r.gOob

/-- The edge at the last slot completes the window. -/
theorem completedBy_last {r : RxHalf} (h : r.slotIdx.val = 29) :
    CompletedBy r [stampNow r] (completeWindow (storeEdge r)) := by
  refine ⟨?_, rfl, rfl, rfl, rfl, rfl, rfl, rfl, rfl⟩
  have htake := take_succ_toList_set r.win r.slotIdx (stampNow r)
  rwa [List.take_of_length_le (by simp [h])] at htake

/-- An edge stored before the last slot is the first of those that complete the window. -/
theorem CompletedBy.cons {r q : RxHalf} {stamps : List Stamp} (hslot : r.slotIdx.val < 29)
    (h : CompletedBy (storeEdge r) stamps q) : CompletedBy r (stampNow r :: stamps) q := by
  refine { h with win := ?_ }
  have hnext : (storeEdge r).slotIdx.val = r.slotIdx.val + 1 := by
    rw [storeEdge_slotIdx, nextSlot_val]
    omega
  rw [h.win, hnext, storeEdge_win, take_succ_toList_set, List.append_assoc]
  rfl

/-- TICKs before an edge show in its stamp alone. -/
theorem CompletedBy.of_ticksRx {r q : RxHalf} {stamps : List Stamp} {n : Nat} (h : CompletedBy (ticksRx n r) stamps q) :
    CompletedBy r stamps q := by
  rw [ticksRx_frame] at h
  exact { h with }

/-- As many edges as slots are left complete the window with the running sums of their waits (R144, R147, R149). -/
theorem completedBy_tickedEdges {r : RxHalf} {a : Nat} {waits : List Nat} (hovf : r.irqOvfEn = true)
    (hedge : r.irqEdgeEn = true) (hfull : r.windowFull = false) (hstamp : stampNow r = BitVec.ofNat 64 a)
    (hlen : r.slotIdx.val + waits.length = 30) :
    CompletedBy r ((sumsFrom a waits).map (BitVec.ofNat 64)) (tickedEdges r waits) := by
  induction waits generalizing r a with
  | nil =>
    have := r.slotIdx.isLt
    simp only [List.length_nil] at hlen
    omega
  | cons n waits ih =>
    have hnow : stampNow (ticksRx n r) = BitVec.ofNat 64 (a + n) := by
      rw [stampNow_ticksRx n hovf, hstamp, BitVec.ofNat_add]
    have hghost : ghostOnEdge (ticksRx n r) = ticksRx n r := ghostOnEdge_of_not_full (by simpa using hfull)
    rw [List.length_cons] at hlen
    rw [tickedEdges, List.foldl_cons, ← tickedEdges, tickedEdge_eq_acceptEdge n hedge, sumsFrom, List.map_cons, ← hnow]
    apply CompletedBy.of_ticksRx (n := n)
    obtain ⟨hlt, hacc⟩ | ⟨h29, hacc⟩ := acceptEdge_cases (ticksRx n r) <;> rw [hacc, hghost]
    · refine .cons hlt (ih ?_ ?_ ?_ hnow ?_)
      · simpa using hovf
      · simpa using hedge
      · simpa using hfull
      · rw [ticksRx_slotIdx] at hlt
        rw [storeEdge_slotIdx, nextSlot_val, ticksRx_slotIdx]
        omega
    · rw [ticksRx_slotIdx] at h29
      obtain rfl : waits = [] := List.eq_nil_of_length_eq_zero (by omega)
      exact completedBy_last (by simpa using h29)

/-- The intervals of a window of running sums are the waits between its edges (R163, R169). -/
theorem intervals_sumsFrom (a n : Nat) (waits : List Nat) :
    intervals ((sumsFrom a (n :: waits)).map (BitVec.ofNat 64)) = waits.map (BitVec.ofNat 64) := by
  induction waits generalizing a n with
  | nil => rfl
  | cons m waits ih =>
    have hsub : BitVec.ofNat 64 (a + n + m) - BitVec.ofNat 64 (a + n) = BitVec.ofNat 64 m := by
      rw [BitVec.ofNat_add (a + n) m, BitVec.add_comm, BitVec.add_sub_cancel]
    exact congrArg₂ List.cons hsub (ih (a + n) m)

/-! ### The decoder on a canonical window -/

/-- The class of an interval in a band is the band's number of quarter-bit units (R160). -/
theorem classify_of_inBand {q : Nat} {d : Stamp} (h : inBand q d.toNat) : classify d = BitVec.ofNat 8 q := by
  unfold classify
  obtain ⟨rfl, h⟩ | ⟨rfl, h⟩ | ⟨rfl, h⟩ := h
  · exact if_pos h
  · exact (if_neg (by omega)).trans (if_pos h)
  · exact (if_neg (by omega)).trans ((if_neg (by omega)).trans (if_pos h))

theorem classify_ne_zero_of_inBand {q : Nat} {d : Stamp} (h : inBand q d.toNat) : classify d ≠ 0 := by
  rw [classify_of_inBand h]
  obtain ⟨rfl, -⟩ | ⟨rfl, -⟩ | ⟨rfl, -⟩ := h <;> decide

theorem inBand_pos {q d : Nat} (h : inBand q d) : 0 < q := by
  unfold inBand at h
  omega

theorem inBand_lt {q d : Nat} (h : inBand q d) : d < 300 := by
  unfold inBand at h
  omega

/-- `OffsetBit` in one equation (R162). -/
theorem offsetBit_eq_some {pos : BitVec 8} {b : Fin 8} : offsetBit pos = some b ↔ pos.toNat + 4 * b.val = 51 := by
  constructor
  · intro h
    unfold offsetBit at h
    split at h <;> cases h <;> rename_i hpos <;> rw [hpos] <;> rfl
  · intro h
    have hpos : pos.toNat = 51 - 4 * b.val := by omega
    rw [offsetBit, hpos]
    fin_cases b <;> rfl

/-- The accumulator after the decoder meets an edge at position `p` with the flag `lvl` (R163). -/
def writeAt (lvl : Bool) (acc : Byte) (p : Nat) : Byte :=
  match offsetBit (BitVec.ofNat 8 p) with
  | some b => setBit acc b lvl
  | none   => acc

/-- The accumulator after edges at these positions, the flag flipping at each (R163). -/
def writeAll : Bool → Byte → List Nat → Byte
  | _, acc, [] => acc
  | lvl, acc, p :: more => writeAll (!lvl) (writeAt lvl acc p) more

/-- An interval in the band of the gap between two positions takes the decoder from the one to the other (R163). -/
theorem decodeInterval_of_inBand {x : DecodeRun} {p p' : Nat} {d : Stamp} (hpos : x.pos = BitVec.ofNat 8 p)
    (h : inBand (p' - p) d.toNat) :
    decodeInterval x d = { pos := BitVec.ofNat 8 p', lvl := !x.lvl, acc := writeAt x.lvl x.acc p', oob := x.oob } := by
  have hgap := inBand_pos h
  have hnext : x.pos + classify d = BitVec.ofNat 8 p' := by
    rw [hpos, classify_of_inBand h, ← BitVec.ofNat_add, Nat.add_sub_cancel' (by omega)]
  rw [decodeInterval, hnext, decide_eq_false (classify_ne_zero_of_inBand h), Bool.or_false]
  rfl

/-- Intervals in the bands of the gaps take the decoder along the positions, with no out-of-band mark (R163, R166). -/
theorem foldl_decodeInterval_of_inBand {x : DecodeRun} {p : Nat} {ps : List Nat} {ds : List Stamp}
    (hpos : x.pos = BitVec.ofNat 8 p) (h : List.Forall₂ (fun q d => inBand q d.toNat) (gaps (p :: ps)) ds) :
    (ds.foldl decodeInterval x).acc = writeAll x.lvl x.acc ps ∧ (ds.foldl decodeInterval x).oob = x.oob := by
  induction ps generalizing x p ds with
  | nil =>
    cases h
    exact ⟨rfl, rfl⟩
  | cons p' ps ih =>
    obtain ⟨d, ds', hd, hds, rfl⟩ := List.forall₂_cons_left_iff.1 h
    rw [List.foldl_cons, decodeInterval_of_inBand hpos hd]
    exact ih rfl hds

theorem writeAt_of_mod_ne {lvl : Bool} {acc : Byte} {p : Nat} (h : p % 4 ≠ 3) : writeAt lvl acc p = acc := by
  unfold writeAt
  cases hb : offsetBit (BitVec.ofNat 8 p) with
  | none => rfl
  | some b =>
    rw [offsetBit_eq_some, BitVec.toNat_ofNat] at hb
    omega

theorem getLsbD_setBit_true (acc : Byte) (b : Fin 8) (k : Nat) :
    (setBit acc b true).getLsbD k = (acc.getLsbD k || decide (k = b.val)) := by
  have hb := b.isLt
  rw [setBit, if_pos rfl, BitVec.getLsbD_or, ← BitVec.twoPow_eq, BitVec.getLsbD_twoPow]
  simp [hb, eq_comm]

/-- Meeting an edge with the flag up sets the bit whose offset stands there, if one does (R162, R163). -/
theorem getLsbD_writeAt_true {acc : Byte} {p k : Nat} (hp : p < 256) (hk : k < 8) :
    (writeAt true acc p).getLsbD k = true ↔ acc.getLsbD k = true ∨ p + 4 * k = 51 := by
  unfold writeAt
  cases hb : offsetBit (BitVec.ofNat 8 p) with
  | none =>
    have hne : offsetBit (BitVec.ofNat 8 p) ≠ some ⟨k, hk⟩ := by rw [hb]; exact nofun
    rw [ne_eq, offsetBit_eq_some, BitVec.toNat_ofNat, Nat.mod_eq_of_lt hp] at hne
    simp [hne]
  | some b =>
    rw [offsetBit_eq_some, BitVec.toNat_ofNat, Nat.mod_eq_of_lt hp] at hb
    have hbit : k = b.val ↔ p + 4 * k = 51 := by omega
    simp only [getLsbD_setBit_true, Bool.or_eq_true, decide_eq_true_iff, hbit]

/-- A bit time that begins with the flag down: of its four positions only the second can be an offset, and an edge is there
exactly when the bit is 1 (R170). -/
theorem writeAll_bitEdges_cons {acc : Byte} {p : Nat} (b : Bool) (bs : List Bool) (hp : p % 4 = 2) :
    writeAll false acc (bitEdges p (b :: bs))
      = writeAll false (if b = true then writeAt true acc (p + 1) else acc) (bitEdges (p + 4) bs) := by
  cases b with
  | true =>
    have h0 : writeAt false acc p = acc := writeAt_of_mod_ne (by omega)
    simp [bitEdges, writeAll, h0]
  | false =>
    have h2 : writeAt false acc (p + 2) = acc := writeAt_of_mod_ne (by omega)
    have h3 : writeAt true acc (p + 3) = acc := writeAt_of_mod_ne (by omega)
    simp [bitEdges, writeAll, h2, h3]

/-- Bit `k` of the accumulator is set by the bits of a window exactly when the bit whose second position is the offset of `k`
is 1 (R162, R170). -/
theorem getLsbD_writeAll_bitEdges {acc : Byte} {p k : Nat} {bs : List Bool} (hp : p % 4 = 2)
    (hlen : p + 4 * bs.length < 256) (hk : k < 8) :
    (writeAll false acc (bitEdges p bs)).getLsbD k = true ↔
      acc.getLsbD k = true ∨ ∃ j, p + 4 * j + 1 + 4 * k = 51 ∧ bs[j]? = some true := by
  induction bs generalizing acc p with
  | nil => simp [bitEdges, writeAll]
  | cons b bs ih =>
    rw [List.length_cons] at hlen
    rw [writeAll_bitEdges_cons b bs hp, ih (by omega) (by omega)]
    have hfirst : (if b = true then writeAt true acc (p + 1) else acc).getLsbD k = true ↔
        acc.getLsbD k = true ∨ (p + 1 + 4 * k = 51 ∧ b = true) := by
      cases b with
      | true => simp [getLsbD_writeAt_true (show p + 1 < 256 by omega) hk]
      | false => simp
    rw [hfirst, or_assoc]
    refine or_congr_right ⟨?_, ?_⟩
    · rintro (⟨h51, rfl⟩ | ⟨j, h51, hj⟩)
      · exact ⟨0, h51, rfl⟩
      · exact ⟨j + 1, by omega, hj⟩
    · rintro ⟨_ | j, h51, hj⟩
      · exact .inl ⟨h51, Option.some.inj hj⟩
      · exact .inr ⟨j, by omega, hj⟩

/-- Bit `k` of the byte is the `k`-th bit of a window from its end (R170). -/
theorem getElem?_windowBits (err : BitVec 4) (byte : Byte) {k : Nat} (hk : k < 8) :
    (windowBits err byte)[11 - k]? = some (byte.getLsbD k) := by
  interval_cases k <;> rfl

/-- The six preamble positions and the error bits write nothing, the bits of the byte write it (R170). -/
theorem writeAll_canonPositions (err : BitVec 4) (byte : Byte) :
    writeAll true 0 (canonPositions err byte).tail = byte := by
  have hpreamble : writeAll true 0 (canonPositions err byte).tail
      = writeAll false 0 (bitEdges 6 (windowBits err byte)) := rfl
  rw [hpreamble]
  refine BitVec.eq_of_getLsbD_eq fun k hk => ?_
  have hbit : (∃ j, 6 + 4 * j + 1 + 4 * k = 51 ∧ (windowBits err byte)[j]? = some true)
      ↔ (windowBits err byte)[11 - k]? = some true :=
    ⟨fun ⟨j, h51, hj⟩ => by rwa [show 11 - k = j by omega], fun h => ⟨11 - k, by omega, h⟩⟩
  rw [Bool.eq_iff_iff, getLsbD_writeAll_bitEdges rfl (show 6 + 4 * 12 < 256 by decide) hk, hbit]
  simp [getElem?_windowBits err byte hk]

/-- A canonical window decodes to its byte and marks nothing (R170, R171). -/
theorem decode_of_canonical {err : BitVec 4} {byte : Byte} {t : Vector Stamp 30} (h : Canonical err byte t) :
    decodeWindow t = byte ∧ windowOob t = false := by
  obtain ⟨hacc, hoob⟩ := foldl_decodeInterval_of_inBand (x := decodeStart) rfl h
  exact ⟨hacc.trans (writeAll_canonPositions err byte), hoob⟩

/-! ### A poll in time -/

theorem length_bitEdges (p : Nat) (bs : List Bool) : (bitEdges p bs).length = 2 * bs.length := by
  induction bs generalizing p with
  | nil => rfl
  | cons b bs ih => cases b <;> simp [bitEdges, ih] <;> omega

/-- A canonical window has 29 gaps (R163, R170). -/
theorem length_gaps_canonPositions (err : BitVec 4) (byte : Byte) : (gaps (canonPositions err byte)).length = 29 := by
  simp [gaps, canonPositions, length_bitEdges, windowBits]

/-- Edges at canonical intervals make a canonical window (R169, R170). -/
theorem canonical_of_waits {err : BitVec 4} {byte : Byte} {t : Vector Stamp 30} {a idle : Nat} {waits : List Nat}
    (ht : t.toList = (sumsFrom a (idle :: waits)).map (BitVec.ofNat 64))
    (h : List.Forall₂ inBand (gaps (canonPositions err byte)) waits) : Canonical err byte t := by
  rw [Canonical, ht, intervals_sumsFrom, List.forall₂_map_right_iff]
  refine h.imp fun q d hd => ?_
  have := inBand_lt hd
  rwa [BitVec.toNat_ofNat, Nat.mod_eq_of_lt (by omega)]

/-- What a poll of a full window stores and marks (R172). -/
theorem pollRx_full {r : RxHalf} (h : r.windowFull = true) :
    (pollRx r).buf = r.buf.set r.fill (decodeWindow r.win) ∧ (pollRx r).gOob = (r.gOob || windowOob r.win) := by
  simp [pollRx, pollDecode, oobAfterDecode, h]

/-- A poll of a full window answers 1 exactly when it stores the twelfth byte (R172). -/
theorem pollRet_full {r : RxHalf} (h : r.windowFull = true) : pollRet r = true ↔ r.fill = 11 := by
  simp [pollRet, bufferFull, storedAfterPoll, nBuf, h, Fin.ext_iff]

/-- Settles O43: the edges complete a canonical window, and the poll decodes it to its byte. -/
theorem polledCanonicalFrameStoresItsByte : Obligations.PolledCanonicalFrameStoresItsByte := by
  intro r err byte idle waits hovf hedge hslot hfull hwaits
  have hlen : (idle :: waits).length = 30 := by
    rw [List.length_cons, ← hwaits.length_eq, length_gaps_canonPositions]
  obtain ⟨hwin, hslot', hfull', hcount, hbuf, hfill, hdirty, hover, hoob⟩ :=
    completedBy_tickedEdges (a := (stampNow r).toNat) (waits := idle :: waits) hovf hedge hfull
      (by simp) (by rw [hslot, hlen]; rfl)
  rw [hslot] at hwin
  obtain ⟨hbyte, hclean⟩ := decode_of_canonical (canonical_of_waits hwin hwaits)
  obtain ⟨-, -, -, hpslot, -, hpcount, -, -, hpdirty, hpover, hpfull⟩ := pollRx_frame (tickedEdges r (idle :: waits))
  obtain ⟨hpbuf, hpoob⟩ := pollRx_full hfull'
  refine ⟨?_, hpfull, ?_, hpslot.trans hslot', hpcount.trans hcount, hpdirty.trans hdirty, hpover.trans hover, ?_⟩
  · simp only [hpbuf, hbuf, hfill, hbyte]
  · rw [pollRet_full hfull', hfill]
  · rw [hpoob, hclean, Bool.or_false, hoob]

end Sys2Proof.Machine

/-! The proofs of the family 30_encoding: the decoder and the encoder are inverse to each other, which codes are rejected, which
host words are refused, a silent unit run whole, and that a step always goes on. -/

namespace Sys2Proof

/-! ### Decoder and encoder -/

/-- A host word is its fields (R81). -/
theorem hostWord_argOf {w : HostWord} {opc : Byte} (h : (opcOf w).toNat = opc.toNat) : hostWord opc (argOf w) = w := by
  rw [← BitVec.eq_of_toNat_eq h, hostWord_opcOf_argOf]

/-- A host word is read by its `opc`, whatever its operand (R82, R90). -/
theorem decode_encode {i : Instr} (hi : i.wellFormed = true) : decode (encode i) = .ok i := by
  cases i with
  | reservedOpc opc arg =>
    have hopc : 8 ≤ opc.toNat := of_decide_eq_true hi
    rw [encode, decode, decodeHost_reserved _ (by rwa [opcOf_hostWord]), opcOf_hostWord, argOf_hostWord]
  | encInit | encSend | txLevel | txFrame | decInit | decPoll | decGetbuf | decWindow =>
    simp [encode, decode, decodeHost]
  | high | low1 | low2 | low3 | low4 | tick | edgeFall | edgeRise => rfl

/-- A host word is read as reserved, or it has the `opc` of an operation and its reading encodes back to it (R82, R90). -/
theorem decodeHost_cases (w : HostWord) :
    (8 ≤ (opcOf w).toNat ∧ decodeHost w = .reservedOpc (opcOf w) (argOf w))
      ∨ ((opcOf w).toNat < 8 ∧ Machine.isReservedOpc (decodeHost w) = false ∧ (decodeHost w).wellFormed = true
        ∧ encode (decodeHost w) = .host w) := by
  by_cases h8 : 8 ≤ (opcOf w).toNat
  · exact .inl ⟨h8, decodeHost_reserved w h8⟩
  · refine .inr ⟨Nat.not_le.1 h8, ?_⟩
    unfold decodeHost
    interval_cases h : (opcOf w).toNat <;> exact ⟨rfl, rfl, congrArg Code.host (hostWord_argOf h)⟩

/-- What a host word is read as is well-formed and has that word as its code (R82, R90). -/
theorem encode_decodeHost (w : HostWord) : (decodeHost w).wellFormed = true ∧ encode (decodeHost w) = .host w := by
  obtain ⟨h8, hr⟩ | ⟨-, -, h⟩ := decodeHost_cases w
  · rw [hr]
    exact ⟨decide_eq_true h8, congrArg Code.host (hostWord_opcOf_argOf w)⟩
  · exact h

/-- What a symbol code is read as is well-formed and has that code (R86). -/
theorem encode_of_decodeSymbol {c : SymCode} {i : Instr} (h : decodeSymbol c = some i) :
    i.wellFormed = true ∧ encode i = .symbol c := by
  unfold decodeSymbol at h
  split at h <;> cases h <;> exact ⟨rfl, congrArg Code.symbol (BitVec.eq_of_toNat_eq (Eq.symm ‹_›))⟩

/-- What a trigger code is read as is well-formed and has that code (R89). -/
theorem encode_of_decodeTrigger {c : TrigCode} {i : Instr} (h : decodeTrigger c = some i) :
    i.wellFormed = true ∧ encode i = .trigger c := by
  unfold decodeTrigger at h
  split at h <;> cases h <;> exact ⟨rfl, congrArg Code.trigger (BitVec.eq_of_toNat_eq (Eq.symm ‹_›))⟩

/-- A symbol code has no reading exactly from 5 on (R90). -/
theorem decodeSymbol_eq_none {c : SymCode} : decodeSymbol c = none ↔ 5 ≤ c.toNat := by
  rw [← Option.not_isSome_iff_eq_none, decodeSymbol_isSome, decide_eq_true_eq]
  omega

/-- A trigger code has no reading exactly when it is 3 (R90). -/
theorem decodeTrigger_eq_none {c : TrigCode} : decodeTrigger c = none ↔ c.toNat = 3 := by
  have := c.isLt
  rw [← Option.not_isSome_iff_eq_none, decodeTrigger_isSome, decide_eq_true_eq]
  omega

theorem decode_symbol_eq_error {c : SymCode} : decode (.symbol c) = .error .reservedSymbol ↔ 5 ≤ c.toNat := by
  rw [← decodeSymbol_eq_none]
  cases h : decodeSymbol c <;> simp [decode, h]

theorem decode_trigger_eq_error {c : TrigCode} : decode (.trigger c) = .error .reservedTrigger ↔ c.toNat = 3 := by
  rw [← decodeTrigger_eq_none]
  cases h : decodeTrigger c <;> simp [decode, h]

end Sys2Proof

namespace Sys2Proof.Machine

/-- A host word is read as reserved exactly from `opc` 0x08 on (R90). -/
theorem isReservedOpc_decodeHost (w : HostWord) : isReservedOpc (decodeHost w) = true ↔ 8 ≤ (opcOf w).toNat := by
  obtain ⟨h8, hr⟩ | ⟨h8, hr, -⟩ := decodeHost_cases w <;> rw [hr]
  · exact iff_of_true rfl h8
  · exact iff_of_false Bool.false_ne_true (Nat.not_le.2 h8)

/-- Settles O2: the fields of an encoded host word are its `opc` and `arg`, by which it is read. -/
theorem decodeOfEncodeIsTheInstruction : Obligations.DecodeOfEncodeIsTheInstruction :=
  fun _ => decode_encode

/-- Settles O3: in each of the three spaces the reading of a code determines the code. -/
theorem decodedInstructionEncodesBack : Obligations.DecodedInstructionEncodesBack := by
  intro c i h
  cases c with
  | host w =>
    cases h
    exact encode_decodeHost w
  | symbol c => exact encode_of_decodeSymbol (decode_symbol_eq_ok.1 h)
  | trigger c => exact encode_of_decodeTrigger (decode_trigger_eq_ok.1 h)

/-- Settles O4: a code outside the reserved ones has a reading, and `opc` is the word divided by 256. -/
theorem exactlyTheReservedCodesAreRejected : Obligations.ExactlyTheReservedCodesAreRejected := by
  refine ⟨fun c => decode_symbol_eq_error, fun c hc => ?_, fun c => decode_trigger_eq_error, fun c hc => ?_,
    fun w => ⟨decodeHost w, rfl, ?_⟩⟩
  · obtain ⟨i, hi⟩ := Option.ne_none_iff_exists'.1 (mt decodeSymbol_eq_none.1 (Nat.not_le.2 hc))
    exact ⟨i, decode_symbol_eq_ok.2 hi⟩
  · obtain ⟨i, hi⟩ := Option.ne_none_iff_exists'.1 (mt decodeTrigger_eq_none.1 hc.ne)
    exact ⟨i, decode_trigger_eq_ok.2 hi⟩
  · rw [isReservedOpc_decodeHost, opcOf_toNat]
    omega

/-- Settles O1: the decoder computes each reading from the code. -/
theorem sampleCodesDecodeToTheirInstructions : Obligations.SampleCodesDecodeToTheirInstructions :=
  ⟨rfl, rfl, rfl, rfl, rfl, rfl, rfl, rfl, rfl, rfl, rfl, rfl, rfl, rfl⟩

/-! ### A silent unit -/

/-- The sequencer runs the silence it stands before, and moves on (R122, R124, R130). -/
theorem runUnit_silence {s : State} {d : Nat} (hb : s.tx.busy = true) (ha : atUnitStart s.tx.pc = true)
    (hu : unitAt s.cfg s.tx.op s.tx.pc = some (.silence d)) :
    runUnit s = .next (advanceUnit (emitSilence d s)) := by
  simp [runUnit, hb, ha, hu]

/-- Settles O6: the one segment is emitted, and where the sequencer goes is read from the state before. -/
theorem silentUnitEmitsOneOffSegment : Obligations.SilentUnitEmitsOneOffSegment := by
  intro s rest d hc hin hb h0 hon hrem hu
  have ha : atUnitStart s.tx.pc = true := by simp [atUnitStart, h0, hon, hrem]
  rw [step_eq_runInput hc, runInput_txSymbol hin, runUnit_silence (s := popInput rest s) hb ha hu, emitSilence,
    advanceUnit_emitTrain]
  simp only [popInput_cfg, popInput_tx]
  cases nextUnit s.cfg s.tx.op s.tx.pc <;> rfl

/-! ### Refused host words -/

/-- The port has accepted the word: no refusal shows (R84, R91, R127). -/
def Accepted (t : State) : Prop := t.reason = none ∧ (t.resp = none ∨ ∃ r, t.resp = some r ∧ r.err = false)

theorem accepted_respond {r : Response} (s : State) (hr : r.err = false) : Accepted (respond r s) :=
  ⟨rfl, .inr ⟨r, rfl, hr⟩⟩

theorem accepted_beginTx (op : TxOp) (pc : TxPc) (s : State) : Accepted (beginTx op pc s) := ⟨rfl, .inl rfl⟩

/-- The outcome is the refusal for the reason given, or an acceptance when there is none (R91, R127). -/
def Answers (why : Option RefuseReason) (s : State) (o : Host.Outcome State Fault Refusal) : Prop :=
  match why with
  | some why => o = .next (refuse why s)
  | none     => ∃ t, o = .next t ∧ Accepted t

/-- A reserved word, on a free port (R90). -/
theorem exec_reservedOpc_free (opc arg : Byte) {s : State} (hb : s.tx.busy = false) :
    exec (.reservedOpc opc arg) s = .next (refuse .reservedOpc s) :=
  hostOp_free _ hb

/-- Settles O44: on a free port a reserved word is nothing but its refusal. -/
theorem reservedOpcIsRefused : Obligations.ReservedOpcIsRefused :=
  fun opc arg _ hb => exec_reservedOpc_free opc arg hb

/-- A TX operation's operand is legal when there is an operation for it to start (R83). -/
theorem legal_eq_isSome_txOpOf {i : Instr} (c : Config) (hi : needsTxInit i = true) :
    i.legal (nFrames c) = (txOpOf c i).isSome := by
  cases i with
  | encSend arg =>
    simp only [Instr.legal, txOpOf]
    split_ifs <;> simp <;> omega
  | txLevel arg | txFrame arg =>
    simp only [Instr.legal, txOpOf]
    split_ifs with h <;> simp [h]
  | _ => cases hi

/-- Why a TX operation is refused: its operand, then the missing ENC_INIT (R128, R207). -/
theorem refusalOf_txOp {i : Instr} (s : State) (hi : needsTxInit i = true) :
    refusalOf s i =
      (txOpOf s.cfg i).elim (some .badArg) fun _ => if s.tx.driven = true then none else some .txNotInit := by
  have ⟨hv, hr⟩ : isReservedOpc i = false ∧ needsRxInit i = false := by cases i <;> cases hi <;> exact ⟨rfl, rfl⟩
  rw [refusalOf, hv, hi, hr, legal_eq_isSome_txOpOf s.cfg hi]
  cases txOpOf s.cfg i <;> cases s.tx.driven <;> rfl

/-- Why a receive operation is refused: its operand, then the missing DEC_INIT (R176, R207). -/
theorem refusalOf_rxOp {i : Instr} {s : State} {arg : Byte} (hi : needsRxInit i = true)
    (hl : i.legal (nFrames s.cfg) = argNone arg) :
    refusalOf s i = if argNone arg then (if s.rx.irqEdgeEn then none else some .rxNotInit) else some .badArg := by
  have ⟨hv, ht⟩ : isReservedOpc i = false ∧ needsTxInit i = false := by cases i <;> cases hi <;> exact ⟨rfl, rfl⟩
  rw [refusalOf, hv, ht, hi, hl]
  cases argNone arg <;> cases s.rx.irqEdgeEn <;> rfl

/-- Only a bad operand makes the port refuse an initialisation (R83, R207). -/
theorem refusalOf_init {i : Instr} (s : State) {arg : Byte} (hi : i = .encInit arg ∨ i = .decInit arg) :
    refusalOf s i = if argNone arg then none else some .badArg := by
  have hl : i.legal (nFrames s.cfg) = argNone arg := by obtain rfl | rfl := hi <;> rfl
  have ⟨hv, ht, hr⟩ : isReservedOpc i = false ∧ needsTxInit i = false ∧ needsRxInit i = false := by
    obtain rfl | rfl := hi <;> exact ⟨rfl, rfl, rfl⟩
  rw [refusalOf, hv, ht, hr, hl]
  cases argNone arg <;> rfl

/-- What a TX operation answers on a free port (R127, R128). -/
theorem answers_txOp {i : Instr} {s : State} (hi : needsTxInit i = true) (hb : s.tx.busy = false) :
    Answers (refusalOf s i) s (exec i s) := by
  rw [exec_txOp_free hi hb, refusalOf_txOp s hi]
  cases txOpOf s.cfg i with
  | none => rfl
  | some op =>
    rw [Option.elim_some, Option.elim_some, startTx_eq]
    split_ifs
    · exact ⟨_, rfl, accepted_beginTx op _ s⟩
    · rfl

/-- What a receive operation answers on a free port (R176). -/
theorem answers_rxOp {i : Instr} {s : State} {arg : Byte} {f : State → State} (hi : needsRxInit i = true)
    (hl : i.legal (nFrames s.cfg) = argNone arg) (hb : s.tx.busy = false) (hf : Accepted (f s)) :
    Answers (refusalOf s i) s (rxOp arg s f) := by
  rw [rxOp, hostOp_free _ hb, refusalOf_rxOp hi hl]
  split_ifs
  · exact ⟨_, rfl, hf⟩
  · rfl
  · rfl

/-- What an initialisation answers on a free port (R120, R140). -/
theorem answers_init {i : Instr} {s : State} {arg : Byte} {f : State → State}
    (hi : i = .encInit arg ∨ i = .decInit arg) (hb : s.tx.busy = false) (hf : Accepted (f s)) :
    Answers (refusalOf s i) s (hostOp s fun s => if argNone arg then f s else refuse .badArg s) := by
  rw [hostOp_free _ hb, refusalOf_init s hi]
  split_ifs
  · exact ⟨_, rfl, hf⟩
  · rfl

/-- On a free port a host word is refused for the first reason that applies, or accepted (R91, R207). -/
theorem exec_answers {i : Instr} {s : State} (hi : isHostOp i = true) (hb : s.tx.busy = false) :
    Answers (refusalOf s i) s (exec i s) := by
  cases i with
  | encInit arg =>
    rw [exec, execEncInit]
    exact answers_init (.inl rfl) hb (accepted_respond _ rfl)
  | decInit arg =>
    rw [exec, execDecInit]
    exact answers_init (.inr rfl) hb (accepted_respond _ rfl)
  | encSend | txLevel | txFrame => exact answers_txOp rfl hb
  | decPoll | decGetbuf | decWindow =>
    simp only [exec, execDecPoll, execDecGetbuf, execDecWindow]
    exact answers_rxOp rfl rfl hb (accepted_respond _ rfl)
  | reservedOpc opc arg => exact exec_reservedOpc_free opc arg hb
  | _ => cases hi

/-- Settles O45: the two clauses are the two cases of the port's answer. -/
theorem refusedWordsChangeNothing : Obligations.RefusedWordsChangeNothing := by
  intro i s hi hb
  have h := exec_answers hi hb
  constructor
  · intro why hwhy
    rwa [hwhy] at h
  · intro hnone
    rwa [hnone] at h

/-! ### A step always goes on -/

/-- By the invariant the sequencer stands on a segment of a unit (R24, R90). -/
theorem segment_of_busy {s : State} (hi : Inv s) (hb : s.tx.busy = true) :
    ∃ u g, unitAt s.cfg s.tx.op s.tx.pc = some u ∧ segmentOf s.cfg u s.tx.pc.half = some g := by
  obtain ⟨-, htx, -⟩ := hi
  obtain ⟨-, hp, -⟩ := htx.1 hb
  obtain ⟨-, u, g, hu, hg, -⟩ := posLegal_iff.1 hp
  exact ⟨u, g, hu, hg⟩

/-- By the invariant a symbol the sequencer stands before can be decoded (R90). -/
theorem decodeSymbol_of_busy {s : State} {c : SymCode} (hi : Inv s) (hb : s.tx.busy = true)
    (hu : unitAt s.cfg s.tx.op s.tx.pc = some (.symbol c)) : ∃ i, decodeSymbol c = some i := by
  obtain ⟨hc, htx, -⟩ := hi
  obtain ⟨-, hp, -⟩ := htx.1 hb
  obtain ⟨ho, -⟩ := posLegal_iff.1 hp
  rw [← Option.isSome_iff_exists, decodeSymbol_isSome]
  exact decide_eq_true (unitAt_symbol_legal hc ho hu)

/-- Transmitter time always goes on. -/
theorem runTime_next (n : Nat) {s : State} (hi : Inv s) : ∃ t, runTime n s = .next t := by
  cases hb : s.tx.busy
  · exact ⟨s, by simp [runTime, hb]⟩
  · obtain ⟨u, g, hu, hg⟩ := segment_of_busy hi hb
    exact ⟨passTime n u (beginSegment g s), by simp [runTime, hb, hu, hg]⟩

/-- Inside a unit the sequencer finishes the current segment (log 6). -/
theorem runUnit_inside {s : State} (hb : s.tx.busy = true) (ha : atUnitStart s.tx.pc = false) :
    runUnit s = finishSegment s := by
  simp [runUnit, hb, ha]

/-- To finish a segment is to let all of its time pass (R104, log 6). -/
theorem finishSegment_segment {s : State} {u : TxUnit} {g : Segment} (hu : unitAt s.cfg s.tx.op s.tx.pc = some u)
    (hg : segmentOf s.cfg u s.tx.pc.half = some g) :
    finishSegment s = .next (passTime (beginSegment g s).tx.pc.rem u (beginSegment g s)) := by
  simp [finishSegment, hu, hg]

/-- A unit run whole always goes on. -/
theorem runUnit_next {s : State} (hi : Inv s) : ∃ t, runUnit s = .next t := by
  cases hb : s.tx.busy
  · exact ⟨s, runUnit_idle hb⟩
  · obtain ⟨u, g, hu, hg⟩ := segment_of_busy hi hb
    cases ha : atUnitStart s.tx.pc
    · rw [runUnit_inside hb ha]
      exact ⟨_, finishSegment_segment hu hg⟩
    · cases u with
      | silence d => exact ⟨_, runUnit_silence hb ha hu⟩
      | symbol c =>
        obtain ⟨i, hd⟩ := decodeSymbol_of_busy hi hb hu
        exact ⟨_, runUnit_symbol hb ha hu hd⟩

/-- A trigger goes on unless its code is 3 (R90). -/
theorem handleTrigger_next (c : TrigCode) (s : State) :
    (∃ t, handleTrigger c s = .next t) ∨ (c = 3 ∧ handleTrigger c s = .refused .reservedTrigger) := by
  cases hd : decodeTrigger c with
  | some i =>
    rw [handleTrigger_some hd]
    exact .inl (exec_next i s)
  | none =>
    have hc : c = 3 := BitVec.eq_of_toNat_eq (decodeTrigger_eq_none.1 hd)
    exact .inr ⟨hc, by simp [handleTrigger, hd]⟩

/-- Settles O51: each input of a step goes on, by the invariant where the sequencer runs. -/
theorem everyStepGoesOn : Obligations.EveryStepGoesOn := by
  intro s hi
  have ⟨hc, _⟩ := hi
  rw [step_eq_runInput hc]
  cases hin : s.inputs with
  | nil =>
    rw [runInput_nil hin]
    exact .inl (runUnit_next hi)
  | cons x rest =>
    have hpop : Inv (popInput rest s) := hi
    cases x with
    | host w =>
      cases hb : s.tx.busy
      · rw [runInput_host_free hin hb]
        exact .inl (exec_next _ _)
      · rw [runInput_host_busy hin hb]
        exact .inl (runUnit_next hi)
    | trigger c =>
      rw [runInput_trigger hin]
      obtain h | ⟨rfl, h⟩ := handleTrigger_next c (popInput rest s)
      · exact .inl h
      · exact .inr ⟨rest, rfl, h⟩
    | txTime n =>
      rw [runInput_txTime hin]
      exact .inl (runTime_next n hpop)
    | txSymbol =>
      rw [runInput_txSymbol hin]
      exact .inl (runUnit_next hpop)
    | hwReset =>
      rw [runInput_hwReset hin]
      exact .inl ⟨_, rfl⟩

end Sys2Proof.Machine

/-! The proofs of the family 40_tx_pulse_transmitter: the segments and durations of the symbols, the units an operation walks
through, what is still to come of them, and a transmission from its acceptance to its end. -/

namespace Sys2Proof.Machine

/-! ### The symbols' segments and durations -/

/-- The line off for `d` ns. -/
def offFor (d : Nat) : Segment := ⟨false, d⟩

/-- Silences in a row are one silence of their whole duration (R104). -/
theorem waveform_offFor (d : Nat) (ds : List Nat) : waveform ((d :: ds).map offFor) = [offFor (d :: ds).sum] := by
  induction ds generalizing d with
  | nil => rfl
  | cons e ds ih =>
    rw [List.map_cons, waveform, ih e]
    rfl

/-- One silence has the waveform of the silences it is the sum of (R108, R109). -/
theorem waveform_offFor_singleton {d : Nat} (e : Nat) (es : List Nat) (h : d = (e :: es).sum) :
    waveform [offFor d] = waveform ((e :: es).map offFor) := by
  rw [waveform_offFor, ← h]
  rfl

/-- Settles O17: each symbol's effect, and lists of silences with the same sum have the same waveform. -/
theorem lowSymbolsHoldTheLineOff : Obligations.LowSymbolsHoldTheLineOff := by
  intro s
  have h3 : tLow3 s.cfg = tLow1 s.cfg + tLow2 s.cfg := rfl
  have h4 : tLow4 s.cfg = tLow1 s.cfg + 2 * tLow2 s.cfg := rfl
  refine ⟨rfl, rfl, rfl, rfl, waveform_offFor_singleton _ [_] ?_, waveform_offFor_singleton _ [_] ?_,
    waveform_offFor_singleton _ [_, _] ?_, waveform_offFor_singleton _ [_, _] ?_, waveform_offFor_singleton _ [_, _] ?_,
    waveform_offFor_singleton _ [_] ?_⟩
  all_goals
    simp only [List.sum_cons, List.sum_nil]
    omega

theorem tHigh_eq (c : Config) : tHigh c = 8 * c.tCarrier := rfl

/-- The durations of R101 to R103 in a legal configuration: `Low1` is what `High` leaves of a half-bit period (R8). -/
theorem tHigh_add_tLow1 {c : Config} (hc : configLegal c = true) : tHigh c + tLow1 c = c.tHalfbit ∧ 0 < tLow1 c := by
  obtain ⟨hd, -⟩ := (configLegal_iff c).1 hc
  obtain ⟨-, -, h8, -⟩ := (durationsLegal_iff c).1 hd
  rw [tLow1, tHigh_eq]
  omega

/-- A `High` takes time (R8, R101). -/
theorem tHigh_pos {c : Config} (hc : configLegal c = true) : 0 < tHigh c := by
  obtain ⟨hd, -⟩ := (configLegal_iff c).1 hc
  obtain ⟨h0, -⟩ := (durationsLegal_iff c).1 hd
  exact Nat.mul_pos (by decide) h0

/-- Settles O18: all follows from `T_HIGH + T_LOW1 = T_HALFBIT`, both being positive. -/
theorem lowDurationsAreOrdered : Obligations.LowDurationsAreOrdered := by
  refine ⟨fun c hc => ?_, rfl, rfl, rfl, rfl, rfl⟩
  have hpos := tHigh_pos hc
  obtain ⟨hsum, h1⟩ := tHigh_add_tLow1 hc
  have h2 : tLow2 c = c.tHalfbit := rfl
  have h3 : tLow3 c = tLow1 c + tLow2 c := rfl
  have h4 : tLow4 c = tLow1 c + 2 * tLow2 c := rfl
  refine ⟨tHigh_eq c, hsum, h1, ?_, ?_, ?_, h2, h3, h4, ?_, ?_, ?_, ?_, ?_⟩ <;> omega

theorem trainDur_append (gs hs : List Segment) : trainDur (gs ++ hs) = trainDur gs + trainDur hs := by
  simp [trainDur]

theorem trainDur_singleton (g : Segment) : trainDur [g] = g.d := by
  simp [trainDur]

theorem trainDur_flatMap {α : Type} (f : α → List Segment) (xs : List α) :
    trainDur (xs.flatMap f) = (xs.map fun x => trainDur (f x)).sum := by
  induction xs with
  | nil => rfl
  | cons x xs ih => rw [List.flatMap_cons, trainDur_append, ih, List.map_cons, List.sum_cons]

/-- Eight carrier cycles, the period being even (R101, R105). -/
theorem trainDur_highTrain {c : Config} (h : c.tCarrier % 2 = 0) : trainDur (highTrain c) = tHigh c := by
  have hcycle : trainDur (carrierCycle c) = c.tCarrier := by
    rw [trainDur, carrierCycle]
    simp only [List.map_cons, List.map_nil, List.sum_cons, List.sum_nil, tHalfCycle]
    omega
  calc trainDur (highTrain c)
      = ((List.replicate nCyc (carrierCycle c)).map trainDur).sum := by
        rw [highTrain, ← List.flatMap_id, trainDur_flatMap]; rfl
    _ = tHigh c := by rw [List.map_replicate, hcycle, List.sum_replicate, tHigh, smul_eq_mul]

/-- Emission writes the line and the trace only (R104). -/
theorem emitAll_eq (gs : List Segment) (t : TxHalf) :
    emitAll gs t = { t with line := (emitAll gs t).line, trace := t.trace ++ gs } := by
  induction gs generalizing t with
  | nil => rw [emitAll_nil, List.append_nil]
  | cons g gs ih => exact (ih (emit g t)).trans (by simp [emitAll])

/-- The segments of a symbol go to the trace and leave the line off (R104 to R109). -/
theorem emitAll_symbolTrain {c : Config} {code : SymCode} {i : Instr} (h : decodeSymbol code = some i) (t : TxHalf) :
    emitAll (symbolTrain c code) t = { t with line := false, trace := t.trace ++ symbolTrain c code } := by
  rw [emitAll_eq, emitAll_symbolTrain_line h]

/-- Settles O16: the symbol's effect, the line being off after the last half cycle. -/
theorem highEmitsEightCarrierCycles : Obligations.HighEmitsEightCarrierCycles := by
  refine fun s => ⟨?_, rfl, trainDur_highTrain⟩
  rw [exec_symbol (c := 0) rfl, emitTrain, emitAll_symbolTrain rfl]
  rfl

/-- A symbol's segments last as long as the symbol (R111). -/
theorem trainDur_symbolTrain {c : Config} (h : c.tCarrier % 2 = 0) (code : SymCode) :
    trainDur (symbolTrain c code) = symbolDur c code := by
  unfold symbolTrain symbolDur
  split
  · exact trainDur_highTrain h
  all_goals rfl

theorem trainDur_levelsTrain {c : Config} (h : c.tCarrier % 2 = 0) (codes : List SymCode) :
    trainDur (levelsTrain c codes) = levelsDur c codes := by
  rw [levelsTrain, trainDur_flatMap, levelsDur]
  simp only [trainDur_symbolTrain h]

/-- Three times `High` and `Low1` are three half-bit periods (R121, R123). -/
theorem levelsDur_preamble {c : Config} (hc : configLegal c = true) : levelsDur c preamble = 3 * c.tHalfbit := by
  obtain ⟨hsum, -⟩ := tHigh_add_tLow1 hc
  calc levelsDur c preamble
      = tHigh c + (tLow1 c + (tHigh c + (tLow1 c + (tHigh c + (tLow1 c + 0))))) := rfl
    _ = 3 * c.tHalfbit := by omega

/-- Settles O19: durations add up along a pulse train, symbol by symbol and frame by frame. -/
theorem pulseTrainsLastAsLongAsTheirLevels : Obligations.PulseTrainsLastAsLongAsTheirLevels := by
  intro c hc
  obtain ⟨hd, -⟩ := (configLegal_iff c).1 hc
  obtain ⟨-, heven, -⟩ := (durationsLegal_iff c).1 hd
  have hframe (f : Nat) : trainDur (frameTrain c f) = frameDur c f := by
    rw [frameTrain, trainDur_append, trainDur_append, trainDur_levelsTrain heven, trainDur_levelsTrain heven,
      trainDur_singleton, levelsDur_preamble hc, frameDur]
  refine ⟨trainDur_levelsTrain heven, rfl, hframe, fun cmd => ?_⟩
  simp only [commandTrain, commandDur, trainDur_append, trainDur_flatMap, hframe, trainDur_singleton]

/-! ### An accepted operation -/

/-- Only the three TX operations start one (R110, R122, R124). -/
theorem needsTxInit_of_txOpOf {c : Config} {i : Instr} {op : TxOp} (h : txOpOf c i = some op) :
    needsTxInit i = true := by
  cases i with
  | encSend | txLevel | txFrame => rfl
  | _ => cases h

/-- A free, driven port accepts a TX operation with a legal operand (R127). -/
theorem exec_of_txOpOf {s : State} {i : Instr} {op : TxOp} (h : txOpOf s.cfg i = some op) (hb : s.tx.busy = false)
    (hd : s.tx.driven = true) : exec i s = .next (started op s) := by
  rw [exec_txOp_free (needsTxInit_of_txOpOf h) hb, h, Option.elim_some, startTx_eq, if_pos hd, started]

/-- A free port refuses a TX operation that its operand starts no operation for (R83, R91). -/
theorem exec_of_txOpOf_none {s : State} {i : Instr} (hi : needsTxInit i = true) (h : txOpOf s.cfg i = none)
    (hb : s.tx.busy = false) : exec i s = .next (refuse .badArg s) := by
  rw [exec_txOp_free hi hb, h, Option.elim_none]

/-- Settles O12: the operand decides whether there is a symbol to start. -/
theorem txLevelStartsItsSymbol : Obligations.TxLevelStartsItsSymbol := by
  refine fun arg s hb => ⟨fun h4 hd => ?_, fun h4 => ?_⟩
  · exact exec_of_txOpOf (op := .level (arg.setWidth 3)) (if_pos h4) hb hd
  · exact exec_of_txOpOf_none (i := .txLevel arg) rfl (if_neg (Nat.not_le.2 h4)) hb

/-! ### The units of an operation -/

/-- The segments of a list of units, in order. -/
def unitsTrain (c : Config) (us : List TxUnit) : List Segment := us.flatMap (unitTrain c)

@[simp] theorem unitsTrain_nil (c : Config) : unitsTrain c [] = [] := rfl

@[simp] theorem unitsTrain_cons (c : Config) (u : TxUnit) (us : List TxUnit) :
    unitsTrain c (u :: us) = unitTrain c u ++ unitsTrain c us := List.flatMap_cons

@[simp] theorem unitsTrain_append (c : Config) (us vs : List TxUnit) :
    unitsTrain c (us ++ vs) = unitsTrain c us ++ unitsTrain c vs := List.flatMap_append

/-- The units of a list of symbols. -/
def symbolUnits (codes : List SymCode) : List TxUnit := codes.map .symbol

@[simp] theorem length_symbolUnits (codes : List SymCode) : (symbolUnits codes).length = codes.length := List.length_map ..

@[simp] theorem unitsTrain_symbolUnits (c : Config) (codes : List SymCode) :
    unitsTrain c (symbolUnits codes) = levelsTrain c codes := List.flatMap_map ..

theorem symbolUnits_drop {codes : List SymCode} {j : Nat} {u : TxUnit} (h : codes[j]?.map TxUnit.symbol = some u) :
    symbolUnits (codes.drop j) = u :: symbolUnits (codes.drop (j + 1)) := by
  obtain ⟨code, hcode, rfl⟩ := Option.map_eq_some_iff.1 h
  obtain ⟨hj, rfl⟩ := List.getElem?_eq_some_iff.1 hcode
  rw [List.drop_eq_getElem_cons hj]
  rfl

/-- The units of a frame with this body from a place on (R122). -/
def frameFrom (c : Config) (body : List SymCode) (part : Part) (j : Nat) : List TxUnit :=
  match part with
  | .preamble => symbolUnits (preamble.drop j) ++ symbolUnits body ++ [.silence c.tGap]
  | .body     => symbolUnits (body.drop j) ++ [.silence c.tGap]
  | .gap      => [.silence c.tGap]

/-- The units of a frame with this body after the unit at a place (R122). -/
def frameAfter (c : Config) (body : List SymCode) (part : Part) (j : Nat) : List TxUnit :=
  match part with
  | .preamble => frameFrom c body .preamble (j + 1)
  | .body     => frameFrom c body .body (j + 1)
  | .gap      => []

/-- The unit at a place is the first of those from there on. -/
theorem frameFrom_eq_cons {c : Config} {body : List SymCode} {part : Part} {j : Nat} {u : TxUnit}
    (h : partUnit c body part j = some u) : frameFrom c body part j = u :: frameAfter c body part j := by
  cases part with
  | preamble =>
    rw [frameFrom, symbolUnits_drop h]
    rfl
  | body =>
    rw [frameFrom, symbolUnits_drop h]
    rfl
  | gap =>
    cases h
    rfl

/-- The units of `Frame(f)` (R122). -/
def frameUnitList (c : Config) (f : Nat) : List TxUnit := frameFrom c (bodyOf c f) .preamble 0

/-- The units of a list of frames (R122). -/
def framesUnitList (c : Config) (fs : List Nat) : List TxUnit := fs.flatMap (frameUnitList c)

theorem unitsTrain_frameUnitList (c : Config) (f : Nat) : unitsTrain c (frameUnitList c f) = frameTrain c f := by
  simp [frameUnitList, frameFrom, frameTrain, unitTrain]

@[simp] theorem unitsTrain_framesUnitList (c : Config) (fs : List Nat) :
    unitsTrain c (framesUnitList c fs) = framesTrain c fs := by
  rw [unitsTrain, framesUnitList, List.flatMap_assoc]
  exact List.flatMap_congr fun f _ => unitsTrain_frameUnitList c f

theorem length_frameUnitList (c : Config) (f : Nat) : (frameUnitList c f).length = frameUnits c f := by
  simp [frameUnitList, frameFrom, frameUnits, Nat.add_assoc]

@[simp] theorem length_framesUnitList (c : Config) (fs : List Nat) :
    (framesUnitList c fs).length = (fs.map (frameUnits c)).sum := by
  simp only [framesUnitList, List.length_flatMap, length_frameUnitList]

/-- The units of the stages after a stage (R124). -/
def stagesAfter (c : Config) (op : TxOp) (st : Stage) : List TxUnit :=
  match st with
  | .start   => .silence c.tSettle :: framesUnitList c (stageFrames c op .payload ++ stageFrames c op .stop)
  | .settle  => framesUnitList c (stageFrames c op .payload ++ stageFrames c op .stop)
  | .payload => framesUnitList c (stageFrames c op .stop)
  | .stop    => []

/-- The units of a stage after its `k`-th frame, and of the stages after it (R124). -/
def framesAfter (c : Config) (op : TxOp) (st : Stage) (k : Nat) : List TxUnit :=
  framesUnitList c ((stageFrames c op st).drop (k + 1)) ++ stagesAfter c op st

/-- The units of an operation after the unit at `tx_pc` (R110, R122, R124). -/
def unitsAfter (c : Config) (op : TxOp) (pc : TxPc) : List TxUnit :=
  match op with
  | .level _ => []
  | .frame _ | .send _ => match pc.stage with
    | .settle => stagesAfter c op .settle
    | .start | .payload | .stop =>
      frameAfter c ((frameBody? c op pc).getD []) pc.part pc.j ++ framesAfter c op pc.stage pc.k

/-- The units of an operation from a place on; none when the operation is over. -/
def unitsFrom (c : Config) (op : TxOp) : Option TxPc → List TxUnit
  | none    => []
  | some pc => (unitAt c op pc).toList ++ unitsAfter c op pc

/-- The units of a TX operation (R110, R122, R124). -/
def opUnitList (c : Config) (op : TxOp) : List TxUnit :=
  match op with
  | .level code => [.symbol code]
  | .frame f    => frameUnitList c f
  | .send _     => framesUnitList c (stageFrames c op .start) ++ stagesAfter c op .start

theorem framesTrain_append (c : Config) (fs gs : List Nat) :
    framesTrain c (fs ++ gs) = framesTrain c fs ++ framesTrain c gs := List.flatMap_append

theorem unitsTrain_stagesAfter (c : Config) (op : TxOp) (st : Stage) :
    unitsTrain c (stagesAfter c op st) = stagesRest c op st := by
  cases st <;> simp [stagesAfter, stagesRest, unitTrain, framesTrain_append]

theorem unitsTrain_frameAfter (c : Config) (body : List SymCode) (pc : TxPc) :
    unitsTrain c (frameAfter c body pc.part pc.j) = frameRest c body pc := by
  unfold frameAfter frameRest
  cases pc.part <;> simp [frameFrom, unitTrain]

/-- The segments after a unit are those of the units after it. -/
theorem unitsTrain_unitsAfter (c : Config) (op : TxOp) (pc : TxPc) :
    unitsTrain c (unitsAfter c op pc) = unitsRest c op pc := by
  cases op with
  | level code => rfl
  | frame f | send f =>
    simp only [unitsAfter, unitsRest]
    cases pc.stage <;> simp [framesAfter, unitsTrain_stagesAfter, unitsTrain_frameAfter]

/-- The pulse train of an operation is that of its units. -/
theorem unitsTrain_opUnitList (c : Config) (op : TxOp) : unitsTrain c (opUnitList c op) = opTrain c op := by
  cases op with
  | level code => exact List.append_nil _
  | frame f => exact unitsTrain_frameUnitList c f
  | send cmd => simp [opUnitList, opTrain, commandTrain, stagesAfter, unitTrain, framesTrain, stageFrames]

theorem length_opUnitList (c : Config) (op : TxOp) : (opUnitList c op).length = opUnits c op := by
  cases op with
  | level code => rfl
  | frame f => exact length_frameUnitList c f
  | send cmd =>
    rw [opUnitList, stagesAfter, List.length_append, List.length_cons, length_framesUnitList, length_framesUnitList,
      List.map_append, List.sum_append, opUnits, stageFrames, stageFrames, stageFrames]
    omega

/-! ### The sequencer walks through the units -/

section Units

variable {c : Config} {op : TxOp} {pc : TxPc}

theorem unitsFrom_some {u : TxUnit} (hu : unitAt c op pc = some u) :
    unitsFrom c op (some pc) = u :: unitsAfter c op pc := by
  rw [unitsFrom, hu]
  rfl

variable (hop : ∀ code, op ≠ .level code)

include hop

theorem unitsAfter_settle (hs : pc.stage = .settle) : unitsAfter c op pc = stagesAfter c op .settle := by
  cases op with
  | level code => exact absurd rfl (hop code)
  | frame f | send f => simp only [unitsAfter, hs]

theorem unitsAfter_inFrame {body : List SymCode} (hs : pc.stage ≠ .settle) (hb : frameBody? c op pc = some body) :
    unitsAfter c op pc = frameAfter c body pc.part pc.j ++ framesAfter c op pc.stage pc.k := by
  cases op with
  | level code => exact absurd rfl (hop code)
  | frame f | send f =>
    obtain ⟨stage, k, part, j, cyc, half, rem⟩ := pc
    cases stage with
    | settle => exact absurd rfl hs
    | start | payload | stop => rw [unitsAfter, hb, Option.getD_some]

/-- From a place of a frame on: the rest of the frame, then the frames and stages after it (R122, R124). -/
theorem unitsFrom_atUnit {st : Stage} {k : Nat} {body : List SymCode} {part : Part} {j : Nat} {u : TxUnit}
    (hs : st ≠ .settle) (hb : frameBody? c op (atUnit st k part j) = some body) (hu : partUnit c body part j = some u) :
    unitsFrom c op (some (atUnit st k part j)) = frameFrom c body part j ++ framesAfter c op st k := by
  have hunit : unitAt c op (atUnit st k part j) = some u := by
    rw [unitAt_inFrame hop hs, hb]
    exact hu
  rw [unitsFrom_some hunit, unitsAfter_inFrame hop hs hb, frameFrom_eq_cons hu]
  rfl

theorem unitsFrom_enterSettle : unitsFrom c op (some enterSettle) = stagesAfter c op .start := by
  rw [unitsFrom_some (unitAt_settle hop rfl), unitsAfter_settle hop rfl]
  rfl

omit hop

variable (hc : configLegal c = true) (ho : opLegal c op = true)

include hc ho

/-- From the `k`-th frame of a stage on (R122, R124). -/
theorem unitsFrom_enterFrame {st : Stage} {k : Nat} (hk : k < (stageFrames c op st).length) :
    unitsFrom c op (some (enterFrame st k))
      = framesUnitList c ((stageFrames c op st).drop k) ++ stagesAfter c op st := by
  obtain ⟨hop, hs⟩ := stageFrames_nonempty hk
  have hf : (stageFrames c op st)[k] < c.ft.length := stageFrames_lt hc ho (List.getElem_mem hk)
  have hb : frameBody? c op (enterFrame st k) = some (bodyOf c (stageFrames c op st)[k]) := by
    rw [bodyOf, ← List.getElem_eq_getD [] (h := hf), ← List.getElem?_eq_getElem hf]
    simp only [frameBody?, enterFrame, atUnit, List.getElem?_eq_getElem hk]
  rw [enterFrame, unitsFrom_atUnit hop hs hb rfl, List.drop_eq_getElem_cons hk, framesAfter, ← List.append_assoc]
  rfl

/-- From the first frame of a stage on, if it has one. -/
theorem unitsFrom_enterFrame_zero {st : Stage} (hk : (stageFrames c op st).isEmpty ≠ true) :
    unitsFrom c op (some (enterFrame st 0)) = framesUnitList c (stageFrames c op st) ++ stagesAfter c op st :=
  unitsFrom_enterFrame hc ho (List.length_pos_iff.2 (by simpa using hk))

theorem unitsFrom_enterStop : unitsFrom c op (enterStop c op) = stagesAfter c op .payload := by
  unfold enterStop
  split_ifs with he
  · rw [stagesAfter, List.isEmpty_iff.1 he]
    rfl
  · rw [unitsFrom_enterFrame_zero hc ho he]
    exact List.append_nil _

theorem unitsFrom_enterPayload : unitsFrom c op (enterPayload c op) = stagesAfter c op .settle := by
  unfold enterPayload
  split_ifs with he
  · rw [unitsFrom_enterStop hc ho, stagesAfter, stagesAfter, List.isEmpty_iff.1 he, List.nil_append]
  · rw [unitsFrom_enterFrame_zero hc ho he]
    exact List.flatMap_append.symm

/-- From its first place on an operation has all its units (R110, R122, R124). -/
theorem unitsFrom_startPos : unitsFrom c op (some (startPos c op)) = opUnitList c op := by
  cases op with
  | level code => rfl
  | frame f =>
    rw [startPos, unitsFrom_enterFrame hc ho (st := .payload) Nat.one_pos]
    simp [stageFrames, framesUnitList, stagesAfter, opUnitList]
  | send cmd =>
    rw [startPos, opUnitList]
    split_ifs with he
    · rw [unitsFrom_enterSettle (op := .send cmd) nofun, List.isEmpty_iff.1 he]
      rfl
    · exact unitsFrom_enterFrame_zero hc ho he

include hop

/-- After a frame's gap the frames and stages after it are to come (R124). -/
theorem unitsFrom_afterFrame : unitsFrom c op (afterFrame c op pc) = framesAfter c op pc.stage pc.k := by
  unfold afterFrame framesAfter
  split_ifs with hk
  · exact unitsFrom_enterFrame hc ho hk
  · rw [List.drop_eq_nil_of_le (Nat.not_lt.1 hk), framesUnitList, List.flatMap_nil, List.nil_append]
    cases pc.stage with
    | start => exact unitsFrom_enterSettle hop
    | settle => exact unitsFrom_enterPayload hc ho
    | payload => exact unitsFrom_enterStop hc ho
    | stop => rfl

/-- The place after a unit of a frame has the units after it to come (R122, R130). -/
theorem unitsFrom_nextInFrame {body : List SymCode} (hs : pc.stage ≠ .settle) (hb : frameBody? c op pc = some body) :
    unitsFrom c op (nextInFrame c op body pc)
      = frameAfter c body pc.part pc.j ++ framesAfter c op pc.stage pc.k := by
  have hgap : unitsFrom c op (some (atUnit pc.stage pc.k .gap 0))
      = [.silence c.tGap] ++ framesAfter c op pc.stage pc.k := unitsFrom_atUnit hop hs hb rfl
  have hbody {j : Nat} (hj : j < body.length) : unitsFrom c op (some (atUnit pc.stage pc.k .body j))
      = frameFrom c body .body j ++ framesAfter c op pc.stage pc.k :=
    unitsFrom_atUnit hop hs hb (by rw [partUnit, List.getElem?_eq_getElem hj]; rfl)
  unfold nextInFrame frameAfter
  cases pc.part with
  | preamble =>
    dsimp only
    split_ifs with hj hlen
    · exact unitsFrom_atUnit hop hs hb (by rw [partUnit, List.getElem?_eq_getElem hj]; rfl)
    · rw [hgap, frameFrom, List.drop_eq_nil_of_le (Nat.not_lt.1 hj), List.length_eq_zero_iff.1 hlen]
      rfl
    · rw [hbody (Nat.pos_of_ne_zero hlen), frameFrom, frameFrom, List.drop_eq_nil_of_le (Nat.not_lt.1 hj)]
      rfl
  | body =>
    dsimp only
    split_ifs with hj
    · exact hbody hj
    · rw [hgap, frameFrom, List.drop_eq_nil_of_le (Nat.not_lt.1 hj)]
      rfl
  | gap => exact unitsFrom_afterFrame hop hc ho

omit hop

/-- The place after a unit has the units after it to come (R130). -/
theorem unitsFrom_nextUnit {u : TxUnit} (hu : unitAt c op pc = some u) :
    unitsFrom c op (nextUnit c op pc) = unitsAfter c op pc := by
  by_cases hl : ∃ code, op = .level code
  · obtain ⟨code, rfl⟩ := hl
    rfl
  · have hop : ∀ code, op ≠ .level code := fun code hcode => hl ⟨code, hcode⟩
    by_cases hs : pc.stage = .settle
    · rw [nextUnit_settle hop hs, unitsAfter_settle hop hs, unitsFrom_enterPayload hc ho]
    · rw [unitAt_inFrame hop hs, Option.bind_eq_some_iff] at hu
      obtain ⟨body, hb, -⟩ := hu
      rw [nextUnit_inFrame hop hs, hb, unitsAfter_inFrame hop hs hb]
      exact unitsFrom_nextInFrame hop hc ho hs hb

end Units

/-! ### What is still to come -/

/-- Before a unit, it and the units after it are to come. -/
theorem trainToCome_unitPlace {c : Config} {t : TxHalf} (hb : t.busy = true) (hp : UnitPlace c t.op t.pc) :
    trainToCome c t = unitsTrain c (unitsFrom c t.op (some t.pc)) := by
  obtain ⟨ha, u, hu⟩ := hp
  simp only [atUnitStart, Bool.and_eq_true, decide_eq_true_eq] at ha
  obtain ⟨⟨hcyc, hon⟩, hrem⟩ := ha
  have h0 : segmentsBegun t.pc = 0 := by simp [segmentsBegun, hcyc, hon, hrem]
  rw [trainToCome_busy hb hu, h0, List.drop_zero, unitsFrom_some hu, unitsTrain_cons, unitsTrain_unitsAfter]

/-- An operation just accepted stands before the first of its units (R110, R122, R124). -/
theorem trainToCome_started {s : State} {op : TxOp} (hc : configLegal s.cfg = true) (ho : opLegal s.cfg op = true) :
    trainToCome s.cfg (started op s).tx = opTrain s.cfg op :=
  calc trainToCome s.cfg (started op s).tx
      = unitsTrain s.cfg (unitsFrom s.cfg op (some (startPos s.cfg op))) :=
        trainToCome_unitPlace rfl (unitPlace_startPos hc ho)
    _ = opTrain s.cfg op := by rw [unitsFrom_startPos hc ho, unitsTrain_opUnitList]

/-- Settles O56: the word is accepted, and from the operation's first place on all its units are to come. -/
theorem acceptedOperationHasItsWholeTrainToCome : Obligations.AcceptedOperationHasItsWholeTrainToCome := by
  intro s i op hc hop hb hd
  exact ⟨started op s, exec_of_txOpOf hop hb hd, rfl, rfl, trainToCome_started hc (opLegal_of_txOpOf hop)⟩

/-- The segments emitted, followed by those still to come. -/
def wholeTrain (s : State) : List Segment := s.tx.trace ++ trainToCome s.cfg s.tx

/-- The configuration is legal, and a transmission in progress stands on a segment of its operation (R8, R24). -/
def PlaceInv (s : State) : Prop :=
  configLegal s.cfg = true ∧ (s.tx.busy = true → posLegal s.cfg s.tx.op s.tx.pc = true)

/-- A move of the machine that loses nothing of the pulse train and adds nothing to it (R104, R234). -/
structure Keeps (s t : State) : Prop where
  place : PlaceInv t
  train : wholeTrain t = wholeTrain s

/-- The input that is taken is no part of the pulse train. -/
theorem Keeps.of_popInput {rest : List Input} {s t : State} (h : Keeps (popInput rest s) t) : Keeps s t :=
  ⟨h.place, h.train⟩

theorem Keeps.trans {s t v : State} (h : Keeps s t) (h' : Keeps t v) : Keeps s v :=
  ⟨h'.place, h'.train.trans h.train⟩

/-- What leaves the parameters and the transmit half alone keeps the pulse train. -/
theorem keeps_of_tx_eq {s t : State} (hi : PlaceInv s) (hcfg : t.cfg = s.cfg) (htx : t.tx = s.tx) : Keeps s t := by
  refine ⟨?_, ?_⟩
  · rw [PlaceInv, hcfg, htx]
    exact hi
  · rw [wholeTrain, hcfg, htx, wholeTrain]

/-- Past a unit, the units after it are to come, and the sequencer stands before one of them or has ended (R130, R234). -/
theorem goTo_nextUnit {s : State} {pc : TxPc} {u : TxUnit} (hc : configLegal s.cfg = true) (hb : s.tx.busy = true)
    (ho : opLegal s.cfg s.tx.op = true) (hu : unitAt s.cfg s.tx.op pc = some u) :
    PlaceInv (goTo (nextUnit s.cfg s.tx.op pc) s)
      ∧ wholeTrain (goTo (nextUnit s.cfg s.tx.op pc) s) = s.tx.trace ++ unitsRest s.cfg s.tx.op pc := by
  have hrest := unitsFrom_nextUnit hc ho hu
  rw [← unitsTrain_unitsAfter, ← hrest]
  cases hn : nextUnit s.cfg s.tx.op pc with
  | none => exact ⟨⟨hc, nofun⟩, rfl⟩
  | some p =>
    have hp : UnitPlace s.cfg s.tx.op p := unitPlace_nextUnit hc ho hu hn
    obtain ⟨hpos, -⟩ := posLegal_of_unitPlace hc ho hp
    exact ⟨⟨hc, fun _ => hpos⟩, congrArg (s.tx.trace ++ ·) (trainToCome_unitPlace (t := (goTo (some p) s).tx) hb hp)⟩

/-- A unit run whole: all its segments go to the trace (log 6). -/
theorem keeps_advanceUnit {s : State} {u : TxUnit} (hi : PlaceInv s) (hb : s.tx.busy = true)
    (ha : atUnitStart s.tx.pc = true) (hu : unitAt s.cfg s.tx.op s.tx.pc = some u) :
    Keeps s (advanceUnit (emitTrain (unitTrain s.cfg u) s)) := by
  obtain ⟨hc, hpos⟩ := hi
  obtain ⟨ho, -⟩ := posLegal_iff.1 (hpos hb)
  obtain ⟨hp, ht⟩ := goTo_nextUnit (s := emitTrain (unitTrain s.cfg u) s) (pc := s.tx.pc) hc (by simpa using hb)
    (by simpa using ho) (by simpa using hu)
  rw [emitTrain_cfg, emitTrain_tx, emitAll_op] at hp ht
  rw [advanceUnit_emitTrain]
  refine ⟨hp, ht.trans ?_⟩
  rw [wholeTrain, trainToCome_unitPlace hb ⟨ha, u, hu⟩, unitsFrom_some hu, unitsTrain_cons, unitsTrain_unitsAfter,
    emitAll_trace, List.append_assoc]

/-! ### Inside a unit -/

/-- The silences are the gap and the settle delay (R122, R124). -/
theorem unitAt_silence {c : Config} {op : TxOp} {pc : TxPc} {d : Nat} (hu : unitAt c op pc = some (.silence d)) :
    d = c.tGap ∨ d = c.tSettle := by
  have hop : ∀ code, op ≠ .level code := by
    rintro code rfl
    cases hu
  by_cases hs : pc.stage = .settle
  · rw [unitAt_settle hop hs] at hu
    cases hu
    exact .inr rfl
  · rw [unitAt_inFrame hop hs, Option.bind_eq_some_iff] at hu
    obtain ⟨body, -, hu⟩ := hu
    revert hu
    cases pc.part with
    | preamble | body => simp [partUnit]
    | gap => exact fun hu => .inl (by cases hu; rfl)

/-- Every segment takes time (R8). -/
theorem segment_pos {c : Config} {op : TxOp} {pc : TxPc} {u : TxUnit} {h : Half} {g : Segment}
    (hc : configLegal c = true) (hu : unitAt c op pc = some u) (hg : segmentOf c u h = some g) : 0 < g.d := by
  obtain ⟨hd, -⟩ := (configLegal_iff c).1 hc
  obtain ⟨hcar, heven, -, hgap, hsettle, -⟩ := (durationsLegal_iff c).1 hd
  obtain ⟨hsum, h1⟩ := tHigh_add_tLow1 hc
  cases u with
  | silence d =>
    cases hg
    obtain rfl | rfl := unitAt_silence hu
    · exact hgap
    · exact hsettle
  | symbol code =>
    simp only [segmentOf] at hg
    split at hg <;> cases hg <;> simp only [tHalfCycle, tLow2, tLow3, tLow4] <;> omega

/-- A unit with carrier cycles is a `High` (R105). -/
theorem unitTrain_of_hasCycles {c : Config} {u : TxUnit} (h : hasCycles u = true) :
    unitTrain c u = highTrain c ∧ ∀ half, segmentOf c u half = some ⟨decide (half = .on), tHalfCycle c⟩ := by
  cases u with
  | silence d => cases h
  | symbol code =>
    have h0 : code.toNat = 0 := of_decide_eq_true h
    simp [unitTrain, symbolTrain, segmentOf, h0]

/-- Any other unit is one segment (R106 to R109, R122, R124). -/
theorem unitTrain_of_not_hasCycles {c : Config} {u : TxUnit} {half : Half} {g : Segment} (h : hasCycles u = false)
    (hg : segmentOf c u half = some g) : unitTrain c u = [g] := by
  cases u with
  | silence d => cases hg; rfl
  | symbol code =>
    have h0 : code.toNat ≠ 0 := of_decide_eq_false h
    simp only [segmentOf] at hg
    split at hg <;> cases hg <;> rename_i hcode
    · exact absurd hcode h0
    all_goals
      rw [unitTrain, symbolTrain, hcode]
      rfl

/-- The segments of `High` in order: each cycle's on half, then its off half (R105). -/
theorem highTrain_getElem? (c : Config) (cyc : Fin 8) (half : Half) :
    (highTrain c)[2 * cyc.val + if half = .on then 0 else 1]? = some ⟨decide (half = .on), tHalfCycle c⟩ := by
  cases half <;> fin_cases cyc <;> rfl

/-- A transmission stands on the segment `g` of the unit `u`, begun or not. -/
structure OnSegment (s : State) (u : TxUnit) (g : Segment) : Prop where
  config  : configLegal s.cfg = true
  busy    : s.tx.busy = true
  legal   : opLegal s.cfg s.tx.op = true
  unit    : unitAt s.cfg s.tx.op s.tx.pc = some u
  segment : segmentOf s.cfg u s.tx.pc.half = some g
  cycles  : hasCycles u = true ∨ s.tx.pc.cyc.val = 0 ∧ s.tx.pc.half = .on
  rem     : s.tx.pc.rem ≤ g.d

theorem onSegment_of_placeInv {s : State} {u : TxUnit} {g : Segment} (hi : PlaceInv s) (hb : s.tx.busy = true)
    (hu : unitAt s.cfg s.tx.op s.tx.pc = some u) (hg : segmentOf s.cfg u s.tx.pc.half = some g) : OnSegment s u g := by
  obtain ⟨hc, hpos⟩ := hi
  obtain ⟨ho, u', g', hu', hg', hcyc, hrem⟩ := posLegal_iff.1 (hpos hb)
  obtain rfl : u = u' := Option.some.inj (hu.symm.trans hu')
  obtain rfl : g = g' := Option.some.inj (hg.symm.trans hg')
  exact ⟨hc, hb, ho, hu, hg, hcyc, hrem⟩

namespace OnSegment

variable {s : State} {u : TxUnit} {g : Segment} (h : OnSegment s u g)

include h

theorem placeInv : PlaceInv s :=
  ⟨h.config, fun _ => posLegal_iff.2 ⟨h.legal, u, g, h.unit, h.segment, h.cycles, h.rem⟩⟩

theorem wholeTrain_eq :
    wholeTrain s = s.tx.trace ++ ((unitTrain s.cfg u).drop (segmentsBegun s.tx.pc)
      ++ unitsRest s.cfg s.tx.op s.tx.pc) := by
  rw [wholeTrain, trainToCome_busy h.busy h.unit]

/-- A segment that has not begun is the first of those of its unit that have not (R24). -/
theorem drop_segmentsBegun (h0 : s.tx.pc.rem = 0) :
    (unitTrain s.cfg u).drop (segmentsBegun s.tx.pc)
      = g :: (unitTrain s.cfg u).drop (segmentsBegun s.tx.pc + 1) := by
  have hget : (unitTrain s.cfg u)[segmentsBegun s.tx.pc]? = some g := by
    rw [segmentsBegun, if_pos h0]
    cases hu : hasCycles u with
    | true =>
      obtain ⟨htrain, hseg⟩ := unitTrain_of_hasCycles (c := s.cfg) hu
      rw [htrain, ← h.segment, hseg]
      exact highTrain_getElem? s.cfg s.tx.pc.cyc s.tx.pc.half
    | false =>
      obtain ⟨hcyc, hon⟩ := h.cycles.resolve_left (by simp [hu])
      rw [unitTrain_of_not_hasCycles hu h.segment, hcyc, hon]
      rfl
  obtain ⟨hlt, rfl⟩ := List.getElem?_eq_some_iff.1 hget
  exact List.drop_eq_getElem_cons hlt

/-- A segment that begins goes from what is to come to the trace (R104, log 16), and it has begun. -/
theorem begins :
    OnSegment (beginSegment g s) u g ∧ (beginSegment g s).tx.pc.rem ≠ 0 ∧ Keeps s (beginSegment g s) := by
  by_cases h0 : s.tx.pc.rem = 0
  · rw [beginSegment_fresh h0]
    have hpos := segment_pos h.config h.unit h.segment
    have hon : OnSegment { s with tx := { emit g s.tx with pc := { s.tx.pc with rem := g.d } } } u g :=
      ⟨h.config, h.busy, h.legal, h.unit, h.segment, h.cycles, le_refl _⟩
    have hbegun : segmentsBegun { s.tx.pc with rem := g.d } = segmentsBegun s.tx.pc + 1 := by
      simp [segmentsBegun, h0, hpos.ne']
    refine ⟨hon, hpos.ne', hon.placeInv, ?_⟩
    rw [hon.wholeTrain_eq, h.wholeTrain_eq, h.drop_segmentsBegun h0]
    simp only [hbegun, emit_trace, List.append_assoc]
    rfl
  · rw [beginSegment_running h0]
    exact ⟨h, h0, h.placeInv, rfl⟩

/-- After a segment comes the next half cycle of its `High`, or the unit has emitted all its segments (R24, R105). -/
theorem nextSegment_begun (h0 : s.tx.pc.rem ≠ 0) :
    (hasCycles u = true ∧ ∃ cyc half,
        nextSegment s.cfg s.tx.op u s.tx.pc = some { s.tx.pc with cyc := cyc, half := half, rem := 0 }
          ∧ segmentsBegun { s.tx.pc with cyc := cyc, half := half, rem := 0 } = segmentsBegun s.tx.pc)
      ∨ (nextSegment s.cfg s.tx.op u s.tx.pc = nextUnit s.cfg s.tx.op s.tx.pc
          ∧ (unitTrain s.cfg u).length ≤ segmentsBegun s.tx.pc) := by
  have hbegun : segmentsBegun s.tx.pc = 2 * s.tx.pc.cyc.val + (if s.tx.pc.half = .on then 0 else 1) + 1 := by
    rw [segmentsBegun, if_neg h0]
  rw [nextSegment, hbegun]
  cases hu : hasCycles u with
  | false =>
    refine .inr ⟨rfl, ?_⟩
    rw [unitTrain_of_not_hasCycles hu h.segment]
    exact Nat.le_add_left 1 _
  | true =>
    obtain ⟨htrain, -⟩ := unitTrain_of_hasCycles (c := s.cfg) hu
    cases hh : s.tx.pc.half with
    | on => exact .inl ⟨rfl, s.tx.pc.cyc, .off, rfl, rfl⟩
    | off =>
      by_cases h7 : s.tx.pc.cyc.val < 7
      · refine .inl ⟨rfl, Fin.ofNat 8 (s.tx.pc.cyc.val + 1), .on, if_pos h7, ?_⟩
        have hval : (Fin.ofNat 8 (s.tx.pc.cyc.val + 1)).val = s.tx.pc.cyc.val + 1 := Nat.mod_eq_of_lt (by omega)
        simp only [segmentsBegun, hval, if_true, reduceCtorEq, if_false]
        omega
      · refine .inr ⟨if_neg h7, ?_⟩
        have hlen : (highTrain s.cfg).length = 16 := rfl
        rw [htrain, hlen, if_neg nofun]
        omega

/-- Time that passes in a segment that has begun moves nothing between the trace and what is to come, even at its end
(R24, R104). -/
theorem keeps_passTime (h0 : s.tx.pc.rem ≠ 0) (n : Nat) : Keeps s (passTime n u s) := by
  obtain ⟨hn, hpass⟩ | ⟨-, hpass⟩ := passTime_cases n u s <;> rw [hpass]
  · have hon : OnSegment { s with tx := { s.tx with pc := { s.tx.pc with rem := s.tx.pc.rem - n } } } u g :=
      { h with rem := (Nat.sub_le _ _).trans h.rem }
    have hbegun : segmentsBegun { s.tx.pc with rem := s.tx.pc.rem - n } = segmentsBegun s.tx.pc := by
      simp [segmentsBegun, h0, Nat.sub_ne_zero_of_lt hn]
    refine ⟨hon.placeInv, ?_⟩
    rw [hon.wholeTrain_eq, h.wholeTrain_eq]
    simp only [hbegun]
    rfl
  · obtain ⟨hcyc, cyc, half, hnext, hbegun⟩ | ⟨hnext, hall⟩ := h.nextSegment_begun h0 <;> rw [hnext]
    · obtain ⟨-, hseg⟩ := unitTrain_of_hasCycles (c := s.cfg) hcyc
      have hon : OnSegment (goTo (some { s.tx.pc with cyc := cyc, half := half, rem := 0 }) s) u _ :=
        ⟨h.config, h.busy, h.legal, h.unit, hseg half, .inl hcyc, Nat.zero_le _⟩
      refine ⟨hon.placeInv, ?_⟩
      rw [hon.wholeTrain_eq, h.wholeTrain_eq]
      simp only [goTo_some, hbegun]
      rfl
    · obtain ⟨hp, ht⟩ := goTo_nextUnit h.config h.busy h.legal h.unit
      refine ⟨hp, ht.trans ?_⟩
      rw [h.wholeTrain_eq, List.drop_eq_nil_of_le hall, List.nil_append]

theorem keeps_passTime_beginSegment (n : Nat) : Keeps s (passTime n u (beginSegment g s)) := by
  obtain ⟨hon, h0, hkeeps⟩ := h.begins
  exact hkeeps.trans (hon.keeps_passTime h0 n)

end OnSegment

/-! ### Every step keeps the pulse train -/

theorem keeps_runTime {n : Nat} {s t : State} (hi : PlaceInv s) (h : runTime n s = .next t) : Keeps s t := by
  obtain ⟨-, rfl⟩ | ⟨hb, u, g, hu, hg, rfl⟩ := runTime_cases h
  · exact ⟨hi, rfl⟩
  · exact (onSegment_of_placeInv hi hb hu hg).keeps_passTime_beginSegment n

theorem keeps_runUnit {s t : State} (hi : PlaceInv s) (h : runUnit s = .next t) : Keeps s t := by
  obtain ⟨-, rfl⟩ | ⟨hb, ha, ⟨d, hu, rfl⟩ | ⟨c, i, v, hu, hd, hv, rfl⟩⟩ | ⟨hb, -, hf⟩ := runUnit_cases h
  · exact ⟨hi, rfl⟩
  · exact keeps_advanceUnit hi hb ha hu
  · rw [exec_symbol hd] at hv
    cases hv
    exact keeps_advanceUnit hi hb ha hu
  · obtain ⟨u, g, n, hu, hg, rfl⟩ := finishSegment_cases hf
    exact (onSegment_of_placeInv hi hb hu hg).keeps_passTime_beginSegment n

theorem not_isTxInstr_of_isTrigger {i : Instr} (h : isTrigger i = true) : isTxInstr i = false := by
  cases i <;> cases h <;> rfl

/-- A step that takes no host word and no hardware reset keeps the pulse train (R104, R127, R234). -/
theorem keeps_step {s t : State} (hi : PlaceInv s)
    (hhost : ∀ w rest, s.inputs = .host w :: rest → s.tx.busy = true) (hreset : ∀ rest, s.inputs ≠ .hwReset :: rest)
    (h : step s = .next t) : Keeps s t := by
  obtain ⟨-, h⟩ := step_legal h
  obtain ⟨-, h⟩ | ⟨w, rest, -, -, h⟩ | ⟨w, rest, hin, hb, -⟩ | ⟨c, rest, i, -, hd, h⟩ | ⟨n, rest, -, h⟩ | ⟨rest, -, h⟩
    | ⟨rest, hin, -⟩ := runInput_cases h
  · exact keeps_runUnit hi h
  · exact keeps_runUnit hi h
  · exact absurd ((hhost w rest hin).symm.trans hb) nofun
  · obtain ⟨hcfg, -⟩ := exec_environment h
    have htx := exec_tx_of_not_isTxInstr (not_isTxInstr_of_isTrigger (isTrigger_of_decodeTrigger hd)) h
    exact keeps_of_tx_eq hi hcfg htx
  · exact (keeps_runTime (s := popInput rest s) hi h).of_popInput
  · exact (keeps_runUnit (s := popInput rest s) hi h).of_popInput
  · exact absurd hin (hreset rest)

/-- When nothing is sent, all that was to come has been emitted. -/
theorem wholeTrain_idle {s : State} (hb : s.tx.busy = false) : wholeTrain s = s.tx.trace := by
  rw [wholeTrain, trainToCome_idle hb, List.append_nil]

/-- Settles O57: the step keeps the whole train, of which nothing is to come once `tx_busy` has fallen. -/
theorem everyStepKeepsTheWholeTrain : Obligations.EveryStepKeepsTheWholeTrain := by
  rintro s t ⟨hc, htx, -⟩ hb hreset h
  have hi : PlaceInv s := ⟨hc, fun hb => by
    obtain ⟨-, hp, -⟩ := htx.1 hb
    exact hp⟩
  have hkeeps : wholeTrain t = wholeTrain s := (keeps_step hi (fun _ _ _ => hb) hreset h).train
  exact ⟨hkeeps, fun hend => (wholeTrain_idle hend).symm.trans hkeeps⟩

/-! ### Any schedule -/

/-- A step takes at most the head of the inputs (log 1). -/
theorem step_inputs_subset {s t : State} (h : step s = .next t) : t.inputs ⊆ s.inputs := by
  have tail {x : Input} {rest : List Input} (hin : s.inputs = x :: rest) (ht : t.inputs = rest) :
      t.inputs ⊆ s.inputs := by
    rw [hin, ht]
    exact List.subset_cons_self x rest
  obtain ⟨-, h⟩ := step_legal h
  obtain ⟨-, h⟩ | ⟨w, rest, -, -, h⟩ | ⟨w, rest, hin, -, h⟩ | ⟨c, rest, i, hin, -, h⟩ | ⟨n, rest, hin, h⟩
    | ⟨rest, hin, h⟩ | ⟨rest, hin, rfl⟩ := runInput_cases h
  · obtain ⟨-, -, hsame⟩ := runUnit_frame h
    rw [hsame]
    exact List.Subset.refl _
  · obtain ⟨-, -, hsame⟩ := runUnit_frame h
    rw [hsame]
    exact List.Subset.refl _
  · obtain ⟨-, ht, -⟩ := exec_environment h
    exact tail hin ht
  · obtain ⟨-, ht, -⟩ := exec_environment h
    exact tail hin ht
  · obtain ⟨-, -, ht⟩ := runTime_frame h
    exact tail hin ht
  · obtain ⟨-, -, ht⟩ := runUnit_frame h
    exact tail hin ht
  · exact tail hin rfl

/-- The first of `n + 1` steps, then the others. -/
theorem run_succ_next {n : Nat} {s t : State} (h : core.run (n + 1) s = .next t) :
    ∃ v, step s = .next v ∧ core.run n v = .next t := by
  cases hs : step s with
  | next v => exact ⟨v, rfl, by simpa [Host.Core.run, core, hs] using h⟩
  | fault r => cases r
  | refused r => simp [Host.Core.run, core, hs] at h

/-- Triggers, transmitter time and whole units keep the pulse train in any order (R127, D29). -/
theorem keeps_run {n : Nat} {s t : State} (hi : PlaceInv s) (hin : ∀ x ∈ s.inputs, isPassive x = true)
    (h : core.run n s = .next t) : Keeps s t := by
  induction n generalizing s with
  | zero =>
    cases h
    exact ⟨hi, rfl⟩
  | succ n ih =>
    obtain ⟨v, hv, h⟩ := run_succ_next h
    have hhead {x : Input} {rest : List Input} (hx : s.inputs = x :: rest) : isPassive x = true :=
      hin x (hx ▸ List.mem_cons_self)
    have hkeeps : Keeps s v :=
      keeps_step hi (fun w rest hx => nomatch hhead hx) (fun rest hx => nomatch hhead hx) hv
    exact hkeeps.trans (ih hkeeps.place (fun x hx => hin x (step_inputs_subset hv hx)) h)

/-- An accepted operation stands at a legal place, and its pulse train is to come (R110, R122, R124). -/
theorem placeInv_started {s : State} {op : TxOp} (hc : configLegal s.cfg = true) (ho : opLegal s.cfg op = true) :
    PlaceInv (started op s) ∧ wholeTrain (started op s) = s.tx.trace ++ opTrain s.cfg op := by
  obtain ⟨hpos, -⟩ := posLegal_of_unitPlace hc ho (unitPlace_startPos hc ho)
  exact ⟨⟨hc, fun _ => hpos⟩, congrArg (s.tx.trace ++ ·) (trainToCome_started hc ho)⟩

/-- Settles O21: every schedule keeps the whole train, and what is left of it is what is still to come. -/
theorem pulseTrainDoesNotDependOnTheSchedule : Obligations.PulseTrainDoesNotDependOnTheSchedule := by
  intro s t op n hc ho hin h
  obtain ⟨hi, hwhole⟩ := placeInv_started hc ho
  have hkeeps : Keeps (started op s) t := keeps_run hi hin h
  exact ⟨trainToCome t.cfg t.tx, hkeeps.train.trans hwhole, trainToCome_idle⟩

/-! ### From acceptance to the end -/

/-- The sequencer runs the unit it stands before whole (R122, R130). -/
theorem runUnit_unit {s : State} {u : TxUnit} (hi : PlaceInv s) (hb : s.tx.busy = true)
    (ha : atUnitStart s.tx.pc = true) (hu : unitAt s.cfg s.tx.op s.tx.pc = some u) :
    runUnit s = .next (advanceUnit (emitTrain (unitTrain s.cfg u) s))
      ∧ (emitAll (unitTrain s.cfg u) s.tx).line = false := by
  cases u with
  | silence d => exact ⟨runUnit_silence hb ha hu, rfl⟩
  | symbol c =>
    obtain ⟨hc, hpos⟩ := hi
    obtain ⟨ho, -⟩ := posLegal_iff.1 (hpos hb)
    have hd : (decodeSymbol c).isSome = true := by
      rw [decodeSymbol_isSome]
      exact decide_eq_true (unitAt_symbol_legal hc ho hu)
    obtain ⟨i, hd⟩ := Option.isSome_iff_exists.1 hd
    exact ⟨runUnit_symbol hb ha hu hd, emitAll_symbolTrain_line hd s.tx⟩

/-- The sequencer, left alone, stands before the first of the units `us`, the last that are to come. -/
structure Sending (s : State) (us : List TxUnit) : Prop where
  inputs : s.inputs = []
  resp   : s.resp = none
  busy   : s.tx.busy = true
  place  : PlaceInv s
  start  : UnitPlace s.cfg s.tx.op s.tx.pc
  units  : unitsFrom s.cfg s.tx.op (some s.tx.pc) = us

/-- The operation has ended: the line is off and the port answers with no value (R84, R127, R234). -/
structure Ended (t : State) : Prop where
  busy : t.tx.busy = false
  line : t.tx.line = false
  resp : t.resp = some okResponse

/-- What the sequencer does not write (R2, R26). -/
structure SameElse (s t : State) : Prop where
  driven : t.tx.driven = s.tx.driven
  rx     : t.rx = s.rx
  cfg    : t.cfg = s.cfg

theorem SameElse.trans {s t v : State} (h : SameElse s t) (h' : SameElse t v) : SameElse s v :=
  ⟨h'.driven.trans h.driven, h'.rx.trans h.rx, h'.cfg.trans h.cfg⟩

/-- One step runs one unit: the last ends the operation, any other leaves the others to be sent (R130, R234). -/
theorem sending_step {s : State} {us : List TxUnit} (h : Sending s us) :
    ∃ u vs t, us = u :: vs ∧ step s = .next t ∧ SameElse s t ∧ (vs = [] ∧ Ended t ∨ Sending t vs) := by
  have ⟨ha, u, hu⟩ := h.start
  have ⟨hc, hpos⟩ := h.place
  obtain ⟨ho, -⟩ := posLegal_iff.1 (hpos h.busy)
  obtain ⟨hrun, hline⟩ := runUnit_unit h.place h.busy ha hu
  have hkeeps := keeps_advanceUnit h.place h.busy ha hu
  rw [advanceUnit_emitTrain] at hrun hkeeps
  refine ⟨u, unitsFrom s.cfg s.tx.op (nextUnit s.cfg s.tx.op s.tx.pc),
    goTo (nextUnit s.cfg s.tx.op s.tx.pc) (emitTrain (unitTrain s.cfg u) s), ?_, ?_, ⟨by simp, by simp, by simp⟩, ?_⟩
  · rw [← h.units, unitsFrom_some hu, unitsFrom_nextUnit hc ho hu]
  · rw [step_eq_runInput hc, runInput_nil h.inputs, hrun]
  · cases hn : nextUnit s.cfg s.tx.op s.tx.pc with
    | none => exact .inl ⟨rfl, rfl, hline, rfl⟩
    | some p =>
      rw [hn] at hkeeps
      have hp : UnitPlace s.cfg s.tx.op p := unitPlace_nextUnit hc ho hu hn
      exact .inr ⟨h.inputs, h.resp, by simpa using h.busy, hkeeps.place, by simpa using hp, by simp⟩

theorem run_succ {n : Nat} {s t : State} (h : step s = .next t) : core.run (n + 1) s = core.run n t := by
  simp [Host.Core.run, core, h]

/-- Left alone, the sequencer is busy and the port silent for as many steps as there are units, and then the operation has
ended (R84, R127, R234). -/
theorem sending_run {s : State} {us : List TxUnit} (h : Sending s us) :
    (∀ m, m < us.length → ∃ v, core.run m s = .next v ∧ v.tx.busy = true ∧ v.resp = none)
      ∧ ∃ t, core.run us.length s = .next t ∧ Ended t ∧ SameElse s t := by
  induction us generalizing s with
  | nil =>
    obtain ⟨u, vs, t, hus, -⟩ := sending_step h
    cases hus
  | cons u us ih =>
    obtain ⟨_, _, t, hus, hstep, hsame, hnext⟩ := sending_step h
    cases hus
    have hrest : (∀ m, m < us.length → ∃ v, core.run m t = .next v ∧ v.tx.busy = true ∧ v.resp = none)
        ∧ ∃ v, core.run us.length t = .next v ∧ Ended v ∧ SameElse t v := by
      obtain ⟨rfl, hend⟩ | hsend := hnext
      · exact ⟨nofun, t, rfl, hend, rfl, rfl, rfl⟩
      · exact ih hsend
    obtain ⟨hbusy, v, hv, hend, hsame'⟩ := hrest
    refine ⟨fun m hm => ?_, v, (run_succ hstep).trans hv, hend, hsame.trans hsame'⟩
    cases m with
    | zero => exact ⟨s, rfl, h.busy, h.resp⟩
    | succ m =>
      rw [run_succ hstep]
      exact hbusy m (Nat.lt_of_succ_lt_succ hm)

/-- Settles O20: the operation runs through its units, and what it has emitted at the end is the whole train. -/
theorem txOperationEmitsItsWholePulseTrain : Obligations.TxOperationEmitsItsWholePulseTrain := by
  intro s i op hc hop hb hd hin
  have ho := opLegal_of_txOpOf hop
  obtain ⟨hi, hwhole⟩ := placeInv_started hc ho
  have hsend : Sending (started op s) (opUnitList s.cfg op) :=
    ⟨hin, rfl, rfl, hi, unitPlace_startPos hc ho, unitsFrom_startPos hc ho⟩
  obtain ⟨hbusy, t, ht, hend, hsame⟩ := sending_run hsend
  have hpassive : ∀ x ∈ (started op s).inputs, isPassive x = true := by simp [started, hin]
  have htrace : t.tx.trace = s.tx.trace ++ opTrain s.cfg op :=
    (wholeTrain_idle hend.busy).symm.trans ((keeps_run hi hpassive ht).train.trans hwhole)
  rw [length_opUnitList] at hbusy ht
  exact ⟨started op s, exec_of_txOpOf hop hb hd, hbusy, t, ht, hend.busy, hend.line, hsame.driven.trans hd, htrace,
    hend.resp, hsame.rx, hsame.cfg⟩

end Sys2Proof.Machine

/-! The proofs of the family 41_tx_frame_encoder: ENC_INIT, where TX_FRAME and ENC_SEND begin, and the refusal of a TX operation
on an undriven line. -/

namespace Sys2Proof.Machine

/-! ### ENC_INIT -/

/-- All that ENC_INIT does on a free port (R120). -/
theorem exec_encInit_free (arg : Byte) {s : State} (hb : s.tx.busy = false) :
    exec (.encInit arg) s =
      .next (if arg = 0 then respond okResponse { s with tx := initTx s.tx } else refuse .badArg s) := by
  rw [exec, execEncInit, hostOp_free _ hb]
  simp only [argNone_iff]

/-- Settles O11: on a free port the operand alone decides between the initialisation and its refusal. -/
theorem encInitDrivesTheLineOff : Obligations.EncInitDrivesTheLineOff := by
  refine fun arg s hb => ⟨fun h0 => ?_, fun h0 => ?_⟩
  · rw [exec_encInit_free arg hb, if_pos h0]
    rfl
  · rw [exec_encInit_free arg hb, if_neg h0]
    rfl

/-! ### Where an operation begins -/

/-- ENC_SEND begins at the first start frame, or at the settle delay when the start command is empty (R124). -/
theorem startPos_send (c : Config) (cmd : Command) :
    startPos c (.send cmd) = if c.cmdStart = [] then atUnit .settle 0 .gap 0 else atUnit .start 0 .preamble 0 := by
  simp only [startPos, stageFrames, List.isEmpty_iff, enterSettle, enterFrame]

/-- Settles O13: the index decides whether there is a frame to start. -/
theorem txFrameStartsBeforeItsPreamble : Obligations.TxFrameStartsBeforeItsPreamble := by
  refine fun arg s hb => ⟨fun hlt hd => ?_, fun hle => ?_⟩
  · exact exec_of_txOpOf (op := .frame arg.toNat) (if_pos hlt) hb hd
  · exact exec_of_txOpOf_none (i := .txFrame arg) rfl (if_neg (Nat.not_lt.2 hle)) hb

/-- Settles O14: the operand decides the command, and `startPos_send` says where it begins. -/
theorem encSendStartsWithTheStartCommand : Obligations.EncSendStartsWithTheStartCommand := by
  refine fun arg s hb => ⟨fun cmd harg hd => ?_, fun h1 => ?_⟩
  · have hop : txOpOf s.cfg (.encSend arg) = some (.send cmd) := by
      rw [txOpOf_encSend, argCommand_eq_some.2 harg, Option.map_some]
    rw [exec_of_txOpOf hop hb hd, started, startPos_send]
    rfl
  · have hop : txOpOf s.cfg (.encSend arg) = none := by
      rw [txOpOf_encSend, argCommand_eq_none.2 h1, Option.map_none]
    exact exec_of_txOpOf_none rfl hop hb

/-! ### Before the first ENC_INIT -/

/-- Settles O15: a legal operand names an operation, and starting it asks for a driven line. -/
theorem txOperationsAreRefusedBeforeEncInit : Obligations.TxOperationsAreRefusedBeforeEncInit := by
  intro i s hi hlegal hb hd
  obtain ⟨op, hop⟩ : ∃ op, txOpOf s.cfg i = some op :=
    Option.isSome_iff_exists.1 ((legal_eq_isSome_txOpOf s.cfg hi).symm.trans hlegal)
  have hundriven : ¬s.tx.driven = true := Bool.eq_false_iff.1 hd
  rw [exec_txOp_free hi hb, hop, Option.elim_some, startTx_eq, if_neg hundriven]
  rfl

end Sys2Proof.Machine

/-! The proofs of the family 42_rx_edge_capture: DEC_INIT, TICK, the edges, the clock along a run, and how thirty edges fill the
window. -/

namespace Sys2Proof.Machine

/-! ### DEC_INIT -/

/-- All that DEC_INIT does on a free port (R140). -/
theorem exec_decInit_free (arg : Byte) {s : State} (hb : s.tx.busy = false) :
    exec (.decInit arg) s =
      .next (if arg = 0 then respond okResponse { s with rx := initRx s.rx } else refuse .badArg s) := by
  rw [exec, execDecInit, hostOp_free _ hb]
  simp only [argNone_iff]

/-- Settles O22: on a free port the operand alone decides between the initialisation and its refusal. -/
theorem decInitResetsCountersAndFlags : Obligations.DecInitResetsCountersAndFlags := by
  refine fun arg s hb => ⟨fun h0 => ?_, fun h0 => ?_⟩
  · rw [exec_decInit_free arg hb, if_pos h0]
    rfl
  · rw [exec_decInit_free arg hb, if_neg h0]
    rfl

/-! ### TICK -/

theorem exec_tick (s : State) : exec .tick s = .next { s with rx := tickRx s.rx } := rfl

/-- Settles O23: the three cases of a TICK, told apart by the counter and the enable. -/
theorem tickCountsAndWraps : Obligations.TickCountsAndWraps := by
  intro s
  have htop : s.rx.cnt16.toNat = 65535 ↔ s.rx.cnt16 = 65535#16 := BitVec.toNat_inj (y := 65535#16)
  rw [exec_tick]
  obtain ⟨hne, h⟩ | ⟨heq, hon, h⟩ | ⟨heq, hoff, h⟩ := tickRx_cases s.rx <;> rw [h]
  · simp [mt htop.2 hne]
  · simp [htop.1 heq, hon]
  · simp [htop.1 heq, hoff]

/-- Settles O26: each TICK adds one to the timestamp, and writes the two parts of it only. -/
theorem ticksAdvanceTheTimestampAlone : Obligations.TicksAdvanceTheTimestampAlone := by
  refine fun r n hovf => ⟨?_, ticksRx_frame n r⟩
  rw [stampNow_ticksRx n hovf, BitVec.toNat_add, BitVec.toNat_ofNat, Nat.add_mod_mod]

/-! ### The edges -/

theorem exec_edgeInstr (p : Polarity) (s : State) : exec (edgeInstr p) s = .next { s with rx := edgeRx p s.rx } := by
  cases p <;> rfl

/-- An edge of the watched polarity is accepted once the trigger is enabled (R144). -/
theorem edgeRx_watched {p : Polarity} {r : RxHalf} (hedge : r.irqEdgeEn = true) (hp : r.edgeSel = p) :
    edgeRx p r = acceptEdge r := by
  rw [edgeRx, if_pos hedge, if_pos hp.symm]

/-- An edge that is not enabled or not watched for is ignored (R145, R146). -/
theorem edgeRx_ignored {p : Polarity} {r : RxHalf} (h : r.irqEdgeEn = false ∨ r.edgeSel = p.flip) : edgeRx p r = r := by
  obtain ⟨hon, hsel, -⟩ | ⟨-, h⟩ := edgeRx_cases p r
  · obtain hoff | hother := h
    · exact absurd (hon.symm.trans hoff) nofun
    · cases p <;> exact absurd (hsel.trans hother) nofun
  · exact h

/-- An overrun is marked at the last slot of a window that is not read yet (R152). -/
theorem overrunAfterEdge_eq (r : RxHalf) :
    overrunAfterEdge r = (r.gOverrun || (r.windowFull && decide (r.slotIdx = 29))) := by
  simp [overrunAfterEdge, Fin.ext_iff]

/-- An accepted edge in one equation, the window completion at the 30th entry included (R144, R147, R152). -/
theorem acceptEdge_eq (r : RxHalf) :
    acceptEdge r =
      { r with
        win        := r.win.set r.slotIdx (stampNow r)
        slotIdx    := nextSlot r.slotIdx
        edgeSel    := r.edgeSel.flip
        windowFull := r.windowFull || decide (r.slotIdx = 29)
        winCount   := if r.slotIdx = 29 then r.winCount + 1 else r.winCount
        gDirty     := dirtyAfterEdge r
        gOverrun   := r.gOverrun || (r.windowFull && decide (r.slotIdx = 29)) } := by
  rw [← overrunAfterEdge_eq]
  obtain ⟨hlt, h⟩ | ⟨h29, h⟩ := acceptEdge_cases r
  · have hne : r.slotIdx ≠ 29 := fun h0 => absurd (congrArg Fin.val h0) (Nat.ne_of_lt hlt)
    rw [h, if_neg hne, decide_eq_false hne, Bool.or_false]
    rfl
  · have heq : r.slotIdx = 29 := Fin.ext h29
    have hnext : nextSlot r.slotIdx = 0 := by rw [heq]; rfl
    rw [h, if_pos heq, decide_eq_true heq, Bool.or_true, hnext]
    rfl

/-- Executing the edge that is watched for (R144). -/
theorem exec_watchedEdge {s : State} (hedge : s.rx.irqEdgeEn = true) :
    exec (edgeInstr s.rx.edgeSel) s = .next { s with rx := acceptEdge s.rx } := by
  rw [exec_edgeInstr, edgeRx_watched hedge rfl]

/-- The two ways for an edge to be watched for, in one. -/
theorem eq_edgeInstr_of_watched {i : Instr} {p : Polarity}
    (h : i = .edgeFall ∧ p = .falling ∨ i = .edgeRise ∧ p = .rising) : i = edgeInstr p := by
  obtain ⟨rfl, rfl⟩ | ⟨rfl, rfl⟩ := h <;> rfl

/-- The polarity watched after the edge of the polarity `p`, read off the instruction (R144). -/
theorem flip_eq_ite_edgeInstr (p : Polarity) :
    p.flip = if edgeInstr p = .edgeFall then .rising else .falling := by
  cases p <;> rfl

/-- Settles O27: the edge watched for is accepted, and `acceptEdge_eq` says what that writes. -/
theorem acceptedEdgeIsStamped : Obligations.AcceptedEdgeIsStamped := by
  intro s i hedge hi
  obtain rfl := eq_edgeInstr_of_watched hi
  rw [exec_watchedEdge hedge, acceptEdge_eq, flip_eq_ite_edgeInstr]
  rfl

/-- Settles O28: the edge is ignored by the receive half, which is all that an edge can write. -/
theorem unwatchedEdgeChangesNothing : Obligations.UnwatchedEdgeChangesNothing := by
  have hignored : ∀ (p : Polarity) (s : State), (s.rx.irqEdgeEn = false ∨ s.rx.edgeSel = p.flip) →
      exec (edgeInstr p) s = .next s := fun p s h => by
    rw [exec_edgeInstr, edgeRx_ignored h]
  exact fun s => ⟨hignored .falling s, hignored .rising s⟩

/-! ### The clock along a run -/

theorem stampNow_initRx (r : RxHalf) : stampNow (initRx r) = 0#64 := by
  rw [stampNow, initRx_ovfTally, initRx_cnt16]
  rfl

/-- Only a TICK and DEC_INIT move the clock (R141, R150). -/
theorem exec_stampNow_of_ne_tick {i : Instr} {s t : State} (htick : i ≠ .tick) (hinit : i ≠ .decInit 0)
    (h : exec i s = .next t) : stampNow t.rx = stampNow s.rx := by
  unfold stampNow
  obtain hrx | ⟨hi, -⟩ | ⟨-, hrx⟩ | ⟨hi, -⟩ | ⟨p, -, hrx⟩ := exec_rx_cases h
  · rw [hrx]
  · exact absurd hi hinit
  · obtain ⟨hcnt, htally, -⟩ := pollRx_frame s.rx
    rw [hrx, hcnt, htally]
  · exact absurd hi htick
  · obtain ⟨hcnt, htally, -⟩ := edgeRx_frame p s.rx
    rw [hrx, hcnt, htally]

/-- No run of instructions clears an enable (R34). -/
theorem execAll_enablesKept {is : List Instr} {s t : State} (h : execAll is s = .next t) : EnablesKept s.rx t.rx := by
  induction is generalizing s with
  | nil =>
    cases h
    exact enablesKept_refl _
  | cons i more ih =>
    obtain ⟨v, hv⟩ := exec_next i s
    rw [execAll_cons hv] at h
    obtain ⟨hovf, hedge⟩ := exec_enablesKept hv
    obtain ⟨hovf', hedge'⟩ := ih h
    exact ⟨hovf' ∘ hovf, hedge' ∘ hedge⟩

/-- A run without DEC_INIT moves the clock on by its TICKs, whatever else is executed among them (R149, R150). -/
theorem execAll_stampNow {is : List Instr} {s t : State} (hovf : s.rx.irqOvfEn = true) (hinit : .decInit 0 ∉ is)
    (h : execAll is s = .next t) : stampNow t.rx = stampNow s.rx + BitVec.ofNat 64 (is.count .tick) := by
  induction is generalizing s with
  | nil =>
    cases h
    exact (BitVec.add_zero _).symm
  | cons i more ih =>
    obtain ⟨hi, hmore⟩ := List.ne_and_not_mem_of_not_mem_cons hinit
    obtain ⟨v, hv⟩ := exec_next i s
    obtain ⟨hovf', -⟩ := exec_enablesKept hv
    rw [execAll_cons hv] at h
    rw [ih (hovf' hovf) hmore h]
    by_cases htick : i = .tick
    · subst htick
      cases hv
      rw [stampNow_tickRx hovf, List.count_cons_self, BitVec.add_assoc, Nat.add_comm _ 1, BitVec.ofNat_add]
      rfl
    · rw [exec_stampNow_of_ne_tick htick (Ne.symm hi) hv, List.count_cons_of_ne htick]

/-- The tally and the counter are the two parts of the timestamp (R43). -/
theorem clock_of_stampNow (r : RxHalf) :
    r.ovfTally.toNat = (stampNow r).toNat / 65536 ∧ r.cnt16.toNat = (stampNow r).toNat % 65536 := by
  have hcnt := r.cnt16.isLt
  rw [stampNow, timestampIsTallyTimesWidthPlusCount]
  omega

/-- An accepted edge stores the timestamp at the slot index (R144). -/
theorem acceptEdge_win_getElem (r : RxHalf) : (acceptEdge r).win[r.slotIdx] = stampNow r := by
  obtain ⟨hwin, -⟩ := acceptEdge_writes r
  simp only [hwin, Fin.getElem_fin, Vector.getElem_set_self]

/-- Settles O25: the clock starts at 0 and moves with the TICKs alone, and the edge stores what it reads. -/
theorem clockCountsTicksSinceDecInit : Obligations.ClockCountsTicksSinceDecInit := by
  intro s is hb hinit hlt
  obtain ⟨t, ht⟩ := execAll_next is (respond okResponse { s with rx := initRx s.rx })
  obtain ⟨-, hedge⟩ := execAll_enablesKept ht
  have hstamp : (stampNow t.rx).toNat = is.count .tick := by
    rw [execAll_stampNow rfl hinit ht, respond_rx, stampNow_initRx, BitVec.zero_add, BitVec.toNat_ofNat,
      Nat.mod_eq_of_lt hlt]
  obtain ⟨htally, hcnt⟩ := clock_of_stampNow t.rx
  rw [hstamp] at htally hcnt
  refine ⟨t, (execAll_cons (exec_decInit_free 0 hb) is).trans ht, htally, hcnt, fun i hi => ?_⟩
  obtain rfl := eq_edgeInstr_of_watched hi
  refine ⟨_, exec_watchedEdge (hedge rfl), ?_⟩
  rw [acceptEdge_win_getElem, hstamp]

/-! ### Thirty edges -/

theorem rxInv_ticksRx {r : RxHalf} (n : Nat) (h : RxInv r) : RxInv (ticksRx n r) := by
  rw [ticksRx_frame]
  exact h

/-- Edges with any waits between them keep the invariant of the receive half (R40). -/
theorem rxInv_tickedEdges {r : RxHalf} (waits : List Nat) (h : RxInv r) : RxInv (tickedEdges r waits) := by
  induction waits generalizing r with
  | nil => exact h
  | cons n waits ih => exact ih (rxInv_edgeRx _ (rxInv_ticksRx n h))

@[simp] theorem tickedEdges_irqEdgeEn (r : RxHalf) (waits : List Nat) :
    (tickedEdges r waits).irqEdgeEn = r.irqEdgeEn := by
  induction waits generalizing r with
  | nil => rfl
  | cons n waits ih =>
    obtain ⟨-, -, -, hedge, -⟩ := edgeRx_frame (ticksRx n r).edgeSel (ticksRx n r)
    exact (ih _).trans (hedge.trans (ticksRx_irqEdgeEn n r))

/-- No running sum exceeds the whole. -/
theorem le_of_mem_sumsFrom {x a : Nat} {waits : List Nat} (h : x ∈ sumsFrom a waits) : x ≤ a + waits.sum := by
  induction waits generalizing a with
  | nil => cases h
  | cons n waits ih =>
    rw [List.sum_cons]
    obtain rfl | h := List.mem_cons.1 h
    · omega
    · have := ih h
      omega

/-- Running sums that stay below 2^64 are read back from their timestamps (R149). -/
theorem map_toNat_stamps_sumsFrom {a : Nat} {waits : List Nat} (h : a + waits.sum < 2 ^ 64) :
    ((sumsFrom a waits).map (BitVec.ofNat 64)).map BitVec.toNat = sumsFrom a waits := by
  rw [List.map_map]
  refine (List.map_congr_left fun x hx => ?_).trans (List.map_id _)
  exact Nat.mod_eq_of_lt (Nat.lt_of_le_of_lt (le_of_mem_sumsFrom hx) h)

/-- Settles O29: the edges complete the window with the running sums of the waits; the polarity then follows from the slot by
the invariant of the receive half. -/
theorem thirtyEdgesFillTheWindow : Obligations.ThirtyEdgesFillTheWindow := by
  intro r waits hlen hsum
  obtain ⟨hwin, hslot, hfull, hcount, hbuf, hfill, hdirty, hover, -⟩ :=
    completedBy_tickedEdges (r := initRx r) (a := 0) (waits := waits) rfl rfl rfl (stampNow_initRx r)
      (by simpa using hlen)
  obtain ⟨-, hsel, -⟩ := rxInv_tickedEdges waits (rxInv_initRx r)
  refine ⟨?_, hfull, hcount, hslot, (hsel (by simp)).2 (by rw [hslot]; rfl), hdirty, hover, hbuf, hfill⟩
  rw [hwin, initRx_slotIdx, Fin.val_zero, List.take_zero, List.nil_append, map_toNat_stamps_sumsFrom (by omega)]

end Sys2Proof.Machine

/-! The proofs of the family 43_rx_frame_decoder: the classes of intervals, one interval of the decoder and a whole window, and
the receive operations DEC_WINDOW, DEC_POLL and DEC_GETBUF. -/

namespace Sys2Proof.Machine

/-! ### Classes, offsets and intervals -/

/-- Settles O30: each class is tied to its band by the four cases of `Classify`. -/
theorem classifyFollowsTheOpenBands : Obligations.ClassifyFollowsTheOpenBands := by
  intro d
  obtain ⟨hlo, hhi, h⟩ | ⟨hlo, hhi, h⟩ | ⟨hlo, hhi, h⟩ | ⟨h1, h3, h5, h⟩ := classify_cases d <;> rw [h] <;> simp <;> omega

/-- Settles O31: `offsetBit_eq_some` says it as one equation between the position and the bit. -/
theorem offsetBitIsTheFixedMap : Obligations.OffsetBitIsTheFixedMap := by
  intro pos b
  rw [offsetBit_eq_some]
  omega

/-- An interval has class 0 exactly when it lies in no band (R160, R166). -/
theorem classify_eq_zero_iff {d : Stamp} : classify d = 0 ↔ ∀ q, ¬ inBand q d.toNat := by
  constructor
  · exact fun h q hq => classify_ne_zero_of_inBand hq h
  · intro h
    obtain ⟨hlo, hhi, -⟩ | ⟨hlo, hhi, -⟩ | ⟨hlo, hhi, -⟩ | ⟨-, -, -, h0⟩ := classify_cases d
    · exact absurd (.inl ⟨rfl, hlo, hhi⟩) (h 1)
    · exact absurd (.inr (.inl ⟨rfl, hlo, hhi⟩)) (h 3)
    · exact absurd (.inr (.inr ⟨rfl, hlo, hhi⟩)) (h 5)
    · exact h0

/-- No band reaches 300 ticks (R160). -/
theorem classify_eq_zero_of_le {d : Stamp} (h : 300 ≤ d.toNat) : classify d = 0 :=
  classify_eq_zero_iff.2 fun _ hq => absurd (inBand_lt hq) (Nat.not_lt.2 h)

/-- The `i`-th interval of a window (R163). -/
theorem getElem?_intervals (t : Vector Stamp 30) {i : Nat} (h : i + 1 < 30) :
    (intervals t.toList)[i]? = some (t[i + 1] - t[i]) := by
  have hi : i < 30 := by omega
  simp [intervals, List.getElem?_zipWith, h, hi]

/-- A window has 29 intervals (R163). -/
theorem length_intervals_window (t : Vector Stamp 30) : (intervals t.toList).length = 29 := by
  rw [intervals_length, Vector.length_toList]

/-- Settles O32: a falling pair that is no wrap of the clock is 300 or more apart, which is in no band. -/
theorem intervalsAreModularDifferences : Obligations.IntervalsAreModularDifferences := by
  refine ⟨fun t => ⟨length_intervals_window t, fun i h => getElem?_intervals t h⟩, fun _ _ => BitVec.toNat_sub_of_lt,
    fun _ _ => BitVec.toNat_sub_of_le, fun before now hlt hdrop => ?_, fun t => ?_⟩
  · refine classify_eq_zero_of_le ?_
    rw [BitVec.toNat_sub_of_lt hlt]
    omega
  · rw [BitVec.sub_self]
    rfl

/-! ### One interval of the decoder -/

/-- The assignment of one bit (R163). -/
theorem getLsbD_setBit (acc : Byte) (b : Fin 8) (v : Bool) {k : Nat} (hk : k < 8) :
    (setBit acc b v).getLsbD k = if k = b.val then v else acc.getLsbD k := by
  cases v with
  | true =>
    rw [getLsbD_setBit_true]
    split_ifs with h <;> simp [h]
  | false =>
    rw [setBit, if_neg Bool.false_ne_true, ← BitVec.twoPow_eq, BitVec.getLsbD_and, BitVec.getLsbD_not,
      BitVec.getLsbD_twoPow]
    split_ifs with h
    · simp [h]
    · simp [hk, Ne.symm h]

/-- An interval that meets an offset writes the flag into its bit (R163, R165). -/
theorem decodeInterval_acc_some {x : DecodeRun} {d : Stamp} {b : Fin 8} (h : offsetBit (x.pos + classify d) = some b) :
    (decodeInterval x d).acc = setBit x.acc b x.lvl := by
  simp only [decodeInterval, h]

/-- An interval that meets no offset writes nothing (R163). -/
theorem decodeInterval_acc_none {x : DecodeRun} {d : Stamp} (h : offsetBit (x.pos + classify d) = none) :
    (decodeInterval x d).acc = x.acc := by
  simp only [decodeInterval, h]

/-- Settles O34: the accumulator is written by `setBit` at an offset and left alone elsewhere. -/
theorem intervalWritesTheFlagAtItsOffset : Obligations.IntervalWritesTheFlagAtItsOffset := by
  refine fun x d => ⟨rfl, rfl, fun b hb k hk => ?_, decodeInterval_acc_none, by simp⟩
  rw [decodeInterval_acc_some hb, getLsbD_setBit _ _ _ hk]

/-- The bit of the offset an interval meets holds the flag (R163). -/
theorem getLsbD_decodeInterval_self {x : DecodeRun} {d : Stamp} {b : Fin 8}
    (h : offsetBit (decodeInterval x d).pos = some b) : (decodeInterval x d).acc.getLsbD b.val = x.lvl := by
  rw [decodeInterval_acc_some h, getLsbD_setBit _ _ _ b.isLt, if_pos rfl]

/-- An interval in no band keeps the position (R166). -/
theorem decodeInterval_pos_of_classify_zero {x : DecodeRun} {d : Stamp} (h : classify d = 0) :
    (decodeInterval x d).pos = x.pos := by
  rw [decodeInterval_pos, h]
  exact BitVec.add_zero x.pos

/-- The position grows by the class of the interval as long as the counter has room for it (R168). -/
theorem toNat_decodeInterval_pos {x : DecodeRun} (d : Stamp) (h : x.pos.toNat + 5 < 256) :
    (decodeInterval x d).pos.toNat = x.pos.toNat + (classify d).toNat := by
  have := classify_le d
  rw [decodeInterval_pos, BitVec.toNat_add, Nat.mod_eq_of_lt (by omega)]

/-- Settles O35: the position stays where it is, so the second interval meets the same offset, now with the other flag. -/
theorem secondHitOverwritesTheBit : Obligations.SecondHitOverwritesTheBit := by
  constructor
  · intro x d₁ d₂ b hb h0
    have hpos : (decodeInterval (decodeInterval x d₁) d₂).pos = (decodeInterval x d₁).pos :=
      decodeInterval_pos_of_classify_zero h0
    exact ⟨getLsbD_decodeInterval_self hb, hpos, getLsbD_decodeInterval_self (hpos ▸ hb)⟩
  · intro x d h140 hne
    have hpos : (classify d).toNat ≠ 0 := fun h0 => hne (BitVec.eq_of_toNat_eq h0)
    rw [toNat_decodeInterval_pos d (by omega)]
    omega

/-! ### A whole window -/

/-- The sum of the classes of a list of intervals (R168). -/
def classSum (ds : List Stamp) : Nat := (ds.map fun d => (classify d).toNat).sum

@[simp] theorem classSum_nil : classSum [] = 0 := rfl

@[simp] theorem classSum_cons (d : Stamp) (ds : List Stamp) : classSum (d :: ds) = (classify d).toNat + classSum ds :=
  List.sum_cons

/-- Each interval adds at most 5 (R168). -/
theorem classSum_le (ds : List Stamp) : classSum ds ≤ 5 * ds.length := by
  induction ds with
  | nil => exact Nat.le_refl 0
  | cons d ds ih =>
    have := classify_le d
    rw [classSum_cons, List.length_cons]
    omega

/-- Intervals for which the 8-bit counter has room move the position by the sum of their classes (R168). -/
theorem toNat_foldl_decodeInterval_pos {x : DecodeRun} {ds : List Stamp} (h : x.pos.toNat + 5 * ds.length < 256) :
    (ds.foldl decodeInterval x).pos.toNat = x.pos.toNat + classSum ds := by
  induction ds generalizing x with
  | nil => rfl
  | cons d ds ih =>
    rw [List.length_cons] at h
    have hd := classify_le d
    have hpos := toNat_decodeInterval_pos (x := x) d (by omega)
    rw [List.foldl_cons, ih (by omega), hpos, classSum_cons, Nat.add_assoc]

/-- Settles O33: 29 intervals add at most 145, so the counter has room for them all. -/
theorem positionIsTheSumOfTheClasses : Obligations.PositionIsTheSumOfTheClasses := by
  refine ⟨fun t => ?_, classify_le, fun pos h51 => ?_⟩
  · have hlen := length_intervals_window t
    have hle := classSum_le (intervals t.toList)
    have hpos : (decodeRun t).pos.toNat = classSum (intervals t.toList) :=
      (toNat_foldl_decodeInterval_pos (by rw [hlen]; decide)).trans (Nat.zero_add _)
    exact ⟨hpos, by omega⟩
  · cases hb : offsetBit pos with
    | none => rfl
    | some b =>
      rw [offsetBit_eq_some] at hb
      omega

/-- The mark is set by the intervals of class 0 and by nothing else (R166). -/
theorem foldl_decodeInterval_oob_eq_false (x : DecodeRun) (ds : List Stamp) :
    (ds.foldl decodeInterval x).oob = false ↔ x.oob = false ∧ ∀ d ∈ ds, classify d ≠ 0 := by
  induction ds generalizing x with
  | nil => simp
  | cons d ds ih => simp [ih, and_assoc]

/-- Settles O37: no interval has class 0 exactly when each lies in a band. -/
theorem outOfBandMarkMeansNotClean : Obligations.OutOfBandMarkMeansNotClean := by
  intro t
  have hoob : windowOob t = false ↔ ∀ d ∈ intervals t.toList, classify d ≠ 0 :=
    (foldl_decodeInterval_oob_eq_false decodeStart _).trans (and_iff_right rfl)
  simp only [hoob, Clean, ne_eq, classify_eq_zero_iff, not_forall, not_not]

/-- Settles O36: the intervals lead the decoder along the canonical positions, by `decode_of_canonical`. -/
theorem canonicalWindowDecodesToItsByte : Obligations.CanonicalWindowDecodesToItsByte :=
  fun _ _ _ h => decode_of_canonical h

/-! ### The receive operations on a free port -/

section RxOp

variable {arg : Byte} {s : State} (f : State → State) (hb : s.tx.busy = false)
include hb

/-- A receive operation after DEC_INIT has its effect (R164, R172, R174). -/
theorem rxOp_accepted (h0 : arg = 0) (he : s.rx.irqEdgeEn = true) : rxOp arg s f = .next (f s) := by
  rw [rxOp_free arg f hb, if_pos h0, if_pos he]

/-- A receive operation before DEC_INIT is refused (R176). -/
theorem rxOp_notInit (h0 : arg = 0) (he : s.rx.irqEdgeEn = false) : rxOp arg s f = .next (refuse .rxNotInit s) := by
  rw [rxOp_free arg f hb, if_pos h0, if_neg (Bool.eq_false_iff.1 he)]

/-- A receive operation with an operand is refused, initialised or not (R83, R207). -/
theorem rxOp_badArg (h0 : arg ≠ 0) : rxOp arg s f = .next (refuse .badArg s) := by
  rw [rxOp_free arg f hb, if_neg h0]

end RxOp

/-- Settles O38: an accepted DEC_WINDOW is its response alone. -/
theorem decWindowReadsWithoutConsuming : Obligations.DecWindowReadsWithoutConsuming :=
  fun _ _ hb => ⟨rxOp_accepted _ hb, rxOp_notInit _ hb, rxOp_badArg _ hb⟩

/-- Settles O41: an operation that needs DEC_INIT has no other reason to be refused than its operand and the missing DEC_INIT. -/
theorem rxOperationsAreRefusedBeforeDecInit : Obligations.RxOperationsAreRefusedBeforeDecInit := by
  intro i s hi hb
  have ⟨hh, arg, hl⟩ : isHostOp i = true ∧ ∃ arg, i.legal (nFrames s.cfg) = argNone arg := by
    cases i <;> cases hi <;> exact ⟨rfl, _, rfl⟩
  obtain ⟨hrefused, -⟩ := refusedWordsChangeNothing i s hh hb
  have hwhy := refusalOf_rxOp hi hl
  constructor
  · intro hlegal he
    refine hrefused _ ?_
    rw [hwhy, ← hl, nFrames, hlegal, he]
    rfl
  · intro hlegal
    refine hrefused _ ?_
    rw [hwhy, ← hl, nFrames, hlegal]
    rfl

/-! ### DEC_POLL -/

/-- The place after a decode, 11 going to 0 (R172). -/
theorem ofNat_succ_fill (i : Fin 12) : Fin.ofNat 12 (i.val + 1) = if i = 11 then 0 else i + 1 := by
  revert i
  decide

/-- A poll of a full window (R172). -/
theorem pollRx_full_eq {r : RxHalf} (h : r.windowFull = true) :
    pollRx r =
      { r with buf := r.buf.set r.fill (decodeWindow r.win), windowFull := false,
               fill := if r.fill = 11 then 0 else r.fill + 1, gOob := r.gOob || windowOob r.win } := by
  rw [← ofNat_succ_fill]
  simp [pollRx, pollDecode, storedAfterPoll, oobAfterDecode, h]

/-- A poll with nothing to decode stores no byte (R172). -/
theorem storedAfterPoll_of_not_full {r : RxHalf} (h : r.windowFull = false) : storedAfterPoll r = r.fill.val := by
  simp [storedAfterPoll, h]

/-- A poll with nothing to decode changes nothing (R172). -/
theorem pollRx_of_not_full {r : RxHalf} (h : r.windowFull = false) : pollRx r = r := by
  have hfill : Fin.ofNat 12 r.fill.val = r.fill := Fin.ext (Nat.mod_eq_of_lt r.fill.isLt)
  rw [pollRx, pollDecode_empty h, storedAfterPoll_of_not_full h, hfill]

/-- A poll with nothing to decode answers 0 (R172). -/
theorem pollRet_of_not_full {r : RxHalf} (h : r.windowFull = false) : pollRet r = false := by
  rw [pollRet, storedAfterPoll_of_not_full h]
  exact decide_eq_false (Nat.ne_of_lt r.fill.isLt)

theorem exec_decPoll (arg : Byte) (s : State) :
    exec (.decPoll arg) s = rxOp arg s fun s => respond ⟨false, pollRet s.rx, 0⟩ { s with rx := pollRx s.rx } := rfl

/-- Settles O39: an accepted DEC_POLL is a poll of the receive half and its answer, with a full window or without. -/
theorem decPollStoresTheDecodedByte : Obligations.DecPollStoresTheDecodedByte := by
  intro arg s hb
  simp only [exec_decPoll]
  refine ⟨fun h0 he hf => ?_, fun h0 he hf => ?_, rxOp_notInit _ hb, rxOp_badArg _ hb⟩
  · have hret : pollRet s.rx = decide (s.rx.fill = 11) := by rw [Bool.eq_iff_iff, pollRet_full hf, decide_eq_true_iff]
    rw [rxOp_accepted _ hb h0 he, pollRx_full_eq hf, hret]
    rfl
  · rw [rxOp_accepted _ hb h0 he, pollRx_of_not_full hf, pollRet_of_not_full hf]
    rfl

/-- A poll of a completed window moves to the next place (R172). -/
theorem pollRx_fullWindow_fill (r : RxHalf) (w : Vector Stamp 30) :
    (pollRx (fullWindow r w)).fill.val = (r.fill.val + 1) % 12 := rfl

/-- From an empty buffer the place after `n` decoded windows is `n` modulo 12 (R173). -/
theorem pollWindows_fill (r : RxHalf) (ws : List (Vector Stamp 30)) :
    (pollWindows r ws).fill.val = (r.fill.val + ws.length) % 12 := by
  induction ws generalizing r with
  | nil => exact (Nat.mod_eq_of_lt r.fill.isLt).symm
  | cons w ws ih =>
    have hrest : (pollWindows r (w :: ws)).fill.val = _ := ih (pollRx (fullWindow r w))
    rw [hrest, pollRx_fullWindow_fill, List.length_cons]
    omega

/-- The last of a list of polls comes after the others (R173). -/
theorem pollWindows_concat (r : RxHalf) (ws : List (Vector Stamp 30)) (w : Vector Stamp 30) :
    pollWindows r (ws ++ [w]) = pollRx (fullWindow (pollWindows r ws) w) := by
  simp [pollWindows]

/-- Settles O42: the place is the number of decoded windows modulo 12, and the answer is 1 at the place 11. -/
theorem pollsCycleThroughTheBuffer : Obligations.PollsCycleThroughTheBuffer := by
  intro r ws w h0
  have hfill : (pollWindows r ws).fill.val = ws.length % 12 := by
    rw [pollWindows_fill, h0, Fin.val_zero, Nat.zero_add]
  refine ⟨hfill, ?_, ?_, fun q hq => ⟨pollRx_of_not_full hq, pollRet_of_not_full hq⟩⟩
  · have hlast : (fullWindow (pollWindows r ws) w).fill = 11 ↔ ws.length % 12 = 11 := by
      rw [← hfill]
      exact Fin.ext_iff
    rw [pollRet_full rfl, hlast]
    omega
  · rw [pollWindows_concat]
    obtain ⟨hbuf, -⟩ := pollRx_full (r := fullWindow (pollWindows r ws) w) rfl
    rw [hbuf]
    simp only [fullWindow, hfill]

/-! ### DEC_GETBUF -/

/-- A byte put below the others: the bus shows it at the bottom and them one place up (R65). -/
theorem extractLsb'_shiftLeft_or (byte : Byte) (acc : RData) :
    (acc <<< 8 ||| byte.setWidth 96).extractLsb' 0 8 = byte
      ∧ ∀ i, i + 1 < 12 →
        (acc <<< 8 ||| byte.setWidth 96).extractLsb' (8 * (i + 1)) 8 = acc.extractLsb' (8 * i) 8 := by
  refine ⟨BitVec.eq_of_getLsbD_eq fun k hk => ?_, fun i hi => BitVec.eq_of_getLsbD_eq fun k hk => ?_⟩
  · have hk96 : k < 96 := by omega
    simp [hk, hk96]
  · have hlow : ¬ 8 * (i + 1) + k < 8 := by omega
    have hbound : 8 * (i + 1) + k < 96 := by omega
    have hback : 8 * (i + 1) + k - 8 = 8 * i + k := by omega
    have hbyte : byte.getLsbD (8 * (i + 1) + k) = false := BitVec.getLsbD_of_ge _ _ (by omega)
    rw [BitVec.getLsbD_extractLsb', BitVec.getLsbD_extractLsb', BitVec.getLsbD_or, BitVec.getLsbD_shiftLeft,
      BitVec.getLsbD_setWidth, hback, hbyte]
    simp [hlow, hbound]

/-- Bytes on the response bus, the first at the bottom (R65): `packBuf` for any number of bytes. -/
def packBytes (bytes : List Byte) : RData := bytes.foldr (fun byte acc => (acc <<< 8) ||| byte.setWidth 96) 0

theorem packBuf_eq (b : Vector Byte 12) : packBuf b = packBytes b.toList := rfl

/-- Packed bytes are read back at their places (R65). -/
theorem extractLsb'_packBytes {bytes : List Byte} {i : Nat} (h12 : i < 12) (h : i < bytes.length) :
    (packBytes bytes).extractLsb' (8 * i) 8 = bytes[i] := by
  induction bytes generalizing i with
  | nil => cases h
  | cons byte bytes ih =>
    obtain ⟨hbottom, hup⟩ := extractLsb'_shiftLeft_or byte (packBytes bytes)
    cases i with
    | zero => exact hbottom
    | succ i => exact (hup i h12).trans (ih (by omega) (Nat.lt_of_succ_lt_succ h))

/-- The response bus holds the twelve bytes at their places (R65, R84). -/
theorem extractLsb'_packBuf (b : Vector Byte 12) (i : Fin 12) : (packBuf b).extractLsb' (8 * i.val) 8 = b[i] := by
  rw [packBuf_eq, extractLsb'_packBytes i.isLt (by simp)]
  rfl

/-- Settles O40: the word of an accepted DEC_GETBUF is `packBuf`, from which each byte is read back. -/
theorem decGetbufPacksTheTwelveBytes : Obligations.DecGetbufPacksTheTwelveBytes :=
  fun _ s hb => ⟨fun h0 he => ⟨packBuf s.rx.buf, rxOp_accepted _ hb h0 he, extractLsb'_packBuf s.rx.buf⟩,
    rxOp_notInit _ hb, rxOp_badArg _ hb⟩

end Sys2Proof.Machine

/-! The proofs of the family 70_reset_and_hazards: what an uninitialised block does. -/

namespace Sys2Proof.Machine

/-! ### Before any initialisation -/

/-- A bad operand of an initialisation is a reason to refuse it (R83, R207). -/
theorem refusalOf_init_badArg {i : Instr} (s : State) {arg : Byte} (hi : i = .encInit arg ∨ i = .decInit arg)
    (h0 : arg ≠ 0) : refusalOf s i = some .badArg := by
  rw [refusalOf_init s hi, if_neg (mt (argNone_iff arg).1 h0)]

/-- On an undriven line there is always a reason to refuse a TX operation (R128). -/
theorem exists_refusalOf_txOp {i : Instr} {s : State} (hi : needsTxInit i = true) (hd : s.tx.driven = false) :
    ∃ why, refusalOf s i = some why := by
  rw [refusalOf_txOp s hi, if_neg (Bool.eq_false_iff.1 hd)]
  cases txOpOf s.cfg i with
  | none   => exact ⟨.badArg, rfl⟩
  | some _ => exact ⟨.txNotInit, rfl⟩

/-- Before DEC_INIT there is always a reason to refuse a receive operation (R176). -/
theorem exists_refusalOf_rxOp {i : Instr} {s : State} {arg : Byte} (hi : needsRxInit i = true)
    (hl : i.legal (nFrames s.cfg) = argNone arg) (he : s.rx.irqEdgeEn = false) :
    ∃ why, refusalOf s i = some why := by
  rw [refusalOf_rxOp hi hl, if_neg (Bool.eq_false_iff.1 he)]
  split_ifs
  · exact ⟨.rxNotInit, rfl⟩
  · exact ⟨.badArg, rfl⟩

/-- Before both initialisations there is a reason to refuse every host word but the initialisations (R220). -/
theorem exists_refusalOf_uninitialised {i : Instr} {s : State} (hi : isHostOp i = true) (henc : i ≠ .encInit 0)
    (hdec : i ≠ .decInit 0) (hd : s.tx.driven = false) (he : s.rx.irqEdgeEn = false) :
    ∃ why, refusalOf s i = some why := by
  cases i with
  | encInit arg => exact ⟨.badArg, refusalOf_init_badArg s (.inl rfl) (mt (congrArg Instr.encInit) henc)⟩
  | decInit arg => exact ⟨.badArg, refusalOf_init_badArg s (.inr rfl) (mt (congrArg Instr.decInit) hdec)⟩
  | encSend | txLevel | txFrame => exact exists_refusalOf_txOp rfl hd
  | decPoll | decGetbuf | decWindow => exact exists_refusalOf_rxOp rfl rfl he
  | reservedOpc opc arg => exact ⟨.reservedOpc, rfl⟩
  | _ => cases hi

/-- With the overflow trigger disabled a TICK only moves the counter, which wraps as a word does (R141, R146). -/
theorem tickRx_ovfDisabled {r : RxHalf} (h : r.irqOvfEn = false) : tickRx r = { r with cnt16 := r.cnt16 + 1 } := by
  obtain ⟨-, ht⟩ | ⟨-, hon, -⟩ | ⟨htop, -, ht⟩ := tickRx_cases r
  · exact ht
  · exact absurd (hon.symm.trans h) nofun
  · have hmax : r.cnt16 = 65535#16 := BitVec.eq_of_toNat_eq htop
    have hwrap : r.cnt16 + 1 = 0 := by rw [hmax]; rfl
    rw [ht, hwrap]

/-- Settles O46: every other host word has a reason to be refused, and the triggers find both interrupts disabled. -/
theorem uninitialisedBlockAcceptsOnlyInits : Obligations.UninitialisedBlockAcceptsOnlyInits := by
  intro s hb hd hovf hedge
  obtain ⟨hencInit, -⟩ := encInitDrivesTheLineOff 0 s hb
  obtain ⟨hdecInit, -⟩ := decInitResetsCountersAndFlags 0 s hb
  obtain ⟨hfall, hrise⟩ := unwatchedEdgeChangesNothing s
  refine ⟨fun i hi henc hdec => ?_, hencInit rfl, hdecInit rfl, hfall (.inl hedge), hrise (.inl hedge), ?_⟩
  · obtain ⟨why, hwhy⟩ := exists_refusalOf_uninitialised hi henc hdec hd hedge
    obtain ⟨hrefused, -⟩ := refusedWordsChangeNothing i s hi hb
    exact ⟨why, hwhy, hrefused why hwhy⟩
  · rw [exec_tick, tickRx_ovfDisabled hovf]

end Sys2Proof.Machine
